-- ==== Sys2Proof/Word.lean ====
section
/-!
DEFINITION. The word types of the MSD: command and response words, bytes, binary32 patterns and complex samples
(spec 00_scope.md R9).
-/

namespace Sys2Proof

/-- A command word or a response word (R70, R75). -/
abbrev Word := BitVec 32

/-- An unsigned input byte, the spec's `u8` (R9). -/
abbrev Byte := BitVec 8

/-- A binary32 datum, held as its 32-bit pattern (R9, R91). -/
abbrev F32 := BitVec 32

/-- A complex sample: in-phase and quadrature lane (R9, R101). -/
structure C32 where
  re : F32
  im : F32
  deriving DecidableEq, Repr, Inhabited

/-- The reset sample, `(+0.0, +0.0)` (R21). -/
def C32.zero : C32 := ⟨0#32, 0#32⟩

end Sys2Proof
end

