-- ==== Sys2Proof/Config.lean ====
section
/-!
DEFINITION. The configuration of an instance (spec 00_scope.md R5) and the free values: what the spec leaves
open, as constants with no body.
-/

namespace Sys2Proof

/-- One stage descriptor: the decimation factor `M[k]` and the taps `COEF[k]` (R5, R82). `N[k]` is the number of
taps. Both are what the host hands over at reset, so neither is bounded here: `cfgCause` checks them (R172). -/
structure StageCfg where
  factor : Nat
  taps : List F32
  deriving DecidableEq, Repr

/-- The configuration `CFG`: the stage descriptors in chain order, stage 0 nearest the input (R5, R82). -/
abbrev Cfg := List StageCfg

/-- The configuration behind `State.reset`. The spec gives none (CFG is the host's input at reset, R200); this is
the two-stage one of the source's boundary scenario (95_test_vectors.md S8, T-R1): factors 5 and 3, five taps
`RN32(0.2)` and three taps `RN32(0.333)`. DESIGN CHOICE (log 4), unsafe: no statement but those that name
`State.reset` may rest on it. -/
def Config.cfg : Cfg :=
  [⟨5, List.replicate 5 0x3E4CCCCD#32⟩, ⟨3, List.replicate 3 0x3EAA7EFA#32⟩]

/-- The two-operand numerics functions, as labels for the free NaN (R90). -/
inductive FpOp where
  | fadd
  | fmul
  | fdiv
  deriving DecidableEq, Repr

/-- FREE VALUE (log 6): the bits of the NaN an operation returns when it must return one (R98). `quietNan` sets the
bits that make it a quiet NaN; sign and payload stay open. -/
opaque Config.freeNan : FpOp → F32 → F32 → F32

/-- FREE VALUE (log 8, 9): element `path` of the values drawn by the `n`-th drawing event, for the means of a
zero-length call (R152) and for the state after a reset with an invalid configuration (R42). -/
opaque Config.free : (n : Nat) → (path : List Nat) → Nat

/-- FREE VALUE (log 10): what a ring read outside the ring gives. No state that a run reaches reads one (R51). -/
opaque Config.noSlot : Nat → C32

end Sys2Proof
end

