-- ==== Sys2Proof/Syntax.lean ====
section
/-!
DEFINITION. The commands: one constructor per row of spec/opcode_table.json (30_encoding.md R71).
-/

namespace Sys2Proof

/-- The nine commands of R71. The operands have exactly the widths of R72 and R73. -/
inductive Instr where
  /-- NOP (R144). -/
  | nop
  /-- BEGIN cap: open a call with an output capacity of `cap` samples (R136, R72). -/
  | beginCall (cap : BitVec 24)
  /-- PAIR i, q: feed one input pair (R140, R73). -/
  | pair (i q : Byte)
  /-- END: finish the call (R143). -/
  | endCall
  /-- RDTOT: read the total decimation factor (R160). -/
  | rdtot
  /-- RDMI: read the mean I level (R161). -/
  | rdmi
  /-- RDMQ: read the mean Q level (R162). -/
  | rdmq
  /-- RDOVL: read and clear the overload flag (R163). -/
  | rdovl
  /-- RDOVC: read and reset the overload count (R164). -/
  | rdovc
  deriving DecidableEq, Repr

/-- The opcode number `OP` of a command (R71). -/
def Instr.opcode : Instr → BitVec 4
  | .nop => 0x0#4
  | .beginCall _ => 0x1#4
  | .pair _ _ => 0x2#4
  | .endCall => 0x3#4
  | .rdtot => 0x4#4
  | .rdmi => 0x5#4
  | .rdmq => 0x6#4
  | .rdovl => 0x7#4
  | .rdovc => 0x8#4

/-- The operand field `ARG` of a command (R72-R74). -/
def Instr.arg : Instr → BitVec 24
  | .beginCall cap => cap
  | .pair i q => (q.zeroExtend 24 <<< 8) ||| i.zeroExtend 24
  | .nop | .endCall | .rdtot | .rdmi | .rdmq | .rdovl | .rdovc => 0#24

end Sys2Proof
end

