-- ==== Sys2Proof/WellFormed.lean ====
section
/-!
DEFINITION. Well-formedness: of commands (30_encoding.md R72-R74) and of configurations (00_scope.md R6).
-/

namespace Sys2Proof

/-- Every value of `Instr` is a legal command: the operand types are exactly the operand fields, "Every value is
legal" (R72) and "All 65536 (i, q) values are legal" (R73), and the other commands take no operand (R74). What is
ill-formed is a WORD (R77, refused by `decode`) or an assembler operand (R80, refused by `assemble`). -/
def Instr.wellFormed : Instr → Bool
  | .nop => true
  | .beginCall _ => true
  | .pair _ _ => true
  | .endCall => true
  | .rdtot => true
  | .rdmi => true
  | .rdmq => true
  | .rdovl => true
  | .rdovc => true

/-- The bound of every configuration integer, `2^32 - 1` (R5). -/
def maxParam : Nat := 2 ^ 32 - 1

/-- `TOTAL`, the product of the decimation factors (R5, R30). -/
def Cfg.total : Cfg → Nat
  | [] => 1
  | c :: cs => c.factor * Cfg.total cs

/-- A configuration is valid iff `K >= 1`, every `M[k] >= 1`, every `N[k] >= 1`, and the width bounds of R5
hold (R6). -/
def Cfg.valid (cfg : Cfg) : Bool :=
  !cfg.isEmpty
    && cfg.all (fun c => decide (1 ≤ c.factor) && decide (1 ≤ c.taps.length))
    && cfg.all (fun c => decide (c.factor ≤ maxParam) && decide (c.taps.length ≤ maxParam))
    && decide (Cfg.total cfg ≤ maxParam)

end Sys2Proof
end

