-- ==== Sys2Proof/Decode.lean ====
section
/-!
DEFINITION. The decoder of 30_encoding.md R78, total on all command words, which names the reason for which it
refuses a word (R77); the encoder; and one word per command, written out from the encoding.
-/

namespace Sys2Proof

/-- Why a word is illegal: the four classes of R77. Each raises ILLEGAL_COMMAND (R173). -/
inductive Illegal where
  /-- R77(a): `OP` in `0x9 .. 0xF`. -/
  | opcode
  /-- R77(b): `RSV != 0`. -/
  | reserved
  /-- R77(c): a PAIR word with `W[23:16] != 0`. -/
  | pairZero
  /-- R77(d): an operand-less command with `ARG != 0`. -/
  | operand
  deriving DecidableEq, Repr

/-- `OP = W[31:28]` (R70). -/
def fieldOp (w : Word) : BitVec 4 := w.extractLsb' 28 4

/-- `RSV = W[27:24]` (R70). -/
def fieldRsv (w : Word) : BitVec 4 := w.extractLsb' 24 4

/-- `ARG = W[23:0]` (R70); BEGIN's `cap` (R72). -/
def fieldArg (w : Word) : BitVec 24 := w.extractLsb' 0 24

/-- `W[23:16]`, zero in a PAIR word (R73). -/
def fieldZero (w : Word) : Byte := w.extractLsb' 16 8

/-- `i = W[7:0]` (R73, R55). -/
def fieldI (w : Word) : Byte := w.extractLsb' 0 8

/-- `q = W[15:8]` (R73, R55). -/
def fieldQ (w : Word) : Byte := w.extractLsb' 8 8

/-- A command without operands: legal only with `ARG = 0` (R74). -/
def plainCommand (w : Word) (i : Instr) : Except Illegal Instr :=
  if fieldArg w = 0#24 then .ok i else .error .operand

/-- The decoding algorithm of R78. -/
def decode (w : Word) : Except Illegal Instr :=
  if fieldRsv w ≠ 0#4 then .error .reserved
  else match (fieldOp w).toNat with
    | 0x0 => plainCommand w .nop
    | 0x1 => .ok (.beginCall (fieldArg w))
    | 0x2 => if fieldZero w = 0#8 then .ok (.pair (fieldI w) (fieldQ w)) else .error .pairZero
    | 0x3 => plainCommand w .endCall
    | 0x4 => plainCommand w .rdtot
    | 0x5 => plainCommand w .rdmi
    | 0x6 => plainCommand w .rdmq
    | 0x7 => plainCommand w .rdovl
    | 0x8 => plainCommand w .rdovc
    | _ => .error .opcode

/-- The encoder, "the inverse" (R78): the `match` value of the row with the operands put in. -/
def encode : Instr → Word
  | .nop => 0x00000000#32
  | .beginCall cap => 0x10000000#32 ||| cap.zeroExtend 32
  | .pair i q => 0x20000000#32 ||| (q.zeroExtend 32 <<< 8) ||| i.zeroExtend 32
  | .endCall => 0x30000000#32
  | .rdtot => 0x40000000#32
  | .rdmi => 0x50000000#32
  | .rdmq => 0x60000000#32
  | .rdovl => 0x70000000#32
  | .rdovc => 0x80000000#32

/-- The command word with the bits `w`, of which the table gives `nbits`. Every command is one 32-bit word (R70), so
a bit of the opcode table's numbering is the same bit of the word, and every bit above `nbits` is zero. -/
def tableWord (nbits w : Nat) : Word := BitVec.ofNat 32 (w % 2 ^ nbits)

/-- The command the decoder reads from an opcode-table word. -/
def decodeTableWord (nbits w : Nat) : Option Instr :=
  match decode (tableWord nbits w) with
  | .ok i => some i
  | .error _ => none

/-! One word per constructor, written out bit by bit from R70-R74 (`OP`, `RSV`, `ARG`). -/

theorem decode_word_nop : decode 0b0000_0000_000000000000000000000000#32 = .ok .nop := by decide

theorem decode_word_beginCall :
    decode 0b0001_0000_000000000000000010010110#32 = .ok (.beginCall 150#24) := by decide

theorem decode_word_pair :
    decode 0b0010_0000_00000000_00110010_11001000#32 = .ok (.pair 200#8 50#8) := by decide

theorem decode_word_endCall : decode 0b0011_0000_000000000000000000000000#32 = .ok .endCall := by decide

theorem decode_word_rdtot : decode 0b0100_0000_000000000000000000000000#32 = .ok .rdtot := by decide

theorem decode_word_rdmi : decode 0b0101_0000_000000000000000000000000#32 = .ok .rdmi := by decide

theorem decode_word_rdmq : decode 0b0110_0000_000000000000000000000000#32 = .ok .rdmq := by decide

theorem decode_word_rdovl : decode 0b0111_0000_000000000000000000000000#32 = .ok .rdovl := by decide

theorem decode_word_rdovc : decode 0b1000_0000_000000000000000000000000#32 = .ok .rdovc := by decide

end Sys2Proof
end

