-- ==== Sys2Proof/Machine/CfgCheck.lean ====
section
/-!
DEFINITION. The fault causes and their codes (60_exceptions.md R171) and the check of the configuration at reset
(R172).
-/

namespace Sys2Proof.Machine

/-- The causes of R171. -/
inductive Cause where
  | cfgZeroFactor
  | cfgNoTaps
  | cfgNoStages
  | cfgRange
  | illegalCommand
  | protocol
  | outputCapacity
  | callTooLong
  /-- The driver's return value for an odd length; never recorded by the block (R175). -/
  | malformedLength
  deriving DecidableEq, Repr

/-- The codes of R171. -/
def Cause.code : Cause → BitVec 8
  | .cfgZeroFactor => 0x01#8
  | .cfgNoTaps => 0x02#8
  | .cfgNoStages => 0x03#8
  | .cfgRange => 0x04#8
  | .illegalCommand => 0x10#8
  | .protocol => 0x11#8
  | .outputCapacity => 0x20#8
  | .callTooLong => 0x21#8
  | .malformedLength => 0x30#8

/-- Check (2) of R172: stage by stage in chain order, the factor before the taps. -/
def stageCause : Cfg → Option Cause
  | [] => none
  | c :: cs =>
    if c.factor = 0 then some .cfgZeroFactor
    else if c.taps.length = 0 then some .cfgNoTaps
    else stageCause cs

/-- Check (3) of R172: some `M[k]`, some `N[k]` or `TOTAL` exceeds `2^32 - 1`. -/
def outOfRange (cfg : Cfg) : Bool :=
  cfg.any (fun c => decide (c.factor > maxParam) || decide (c.taps.length > maxParam))
    || decide (Cfg.total cfg > maxParam)

/-- The checks of R172 in their order; the first that fails gives the cause. -/
def cfgCause (cfg : Cfg) : Option Cause :=
  if cfg.isEmpty then some .cfgNoStages
  else match stageCause cfg with
    | some c => some c
    | none => if outOfRange cfg then some .cfgRange else none

end Sys2Proof.Machine
end

