-- ==== Sys2Proof/Machine/State.lean ====
section
/-!
DEFINITION. The state of one MSD instance (10_state.md R20), the port queues, the stop reasons, and construction
(70_reset_and_hazards.md R200, R201).
-/

namespace Sys2Proof.Machine

/-- One FIR stage (R120): its constants, which no command writes (R5, R53; log 3), and its state (R21-R23). -/
structure Stage where
  /-- `M[k]` and `COEF[k]`. -/
  cfg : StageCfg
  /-- `RING[k]`, slot 0 first (R21). -/
  ring : List C32
  /-- `wpos[k]` (R22). A natural number, as R7 allows: no rule lets it reach `N[k]`. -/
  wpos : Nat
  /-- `need[k]` (R23). A natural number, as R7 allows: no rule lets it exceed `M[k]`. -/
  need : Nat
  deriving DecidableEq, Repr

/-- One response: the header word `H` and the payload words that follow it (R75). -/
structure Response where
  header : Word
  payload : List Word
  deriving DecidableEq, Repr

/-- What the host sends: a command word on the command port (R70), or the reset event with its configuration
(R200). -/
inductive PortInput where
  | command (w : Word)
  | reset (cfg : Cfg)
  deriving DecidableEq, Repr

/-- The whole state: R20's elements, then the model's own fields (the two port queues and the draw counter). -/
structure State where
  /-- Stage 0 first; `K` is the length (R20). -/
  stages : List Stage
  /-- The overload flag (R26). -/
  ovl : Bool
  /-- The overload count, modulo 2^32 (R27). -/
  ovc : BitVec 32
  /-- `sum_i` (R28). -/
  sumI : F32
  /-- `sum_q` (R28). -/
  sumQ : F32
  /-- `mean_i` (R29). -/
  meanI : F32
  /-- `mean_q` (R29). -/
  meanQ : F32
  /-- Pairs accepted since the last BEGIN (R31). -/
  npairs : BitVec 31
  /-- Samples emitted since the last BEGIN (R32). -/
  outLen : BitVec 24
  /-- The declared output capacity (R37). -/
  cap : BitVec 24
  /-- `in_call` (R33). -/
  inCall : Bool
  /-- `fault` (R34). -/
  fault : Bool
  /-- `cause` (R35). -/
  cause : BitVec 8
  /-- MODEL'S OWN (log 8): how many events have drawn free values. -/
  draws : Nat
  /-- MODEL'S OWN (log 1): host inputs not yet performed, oldest first. -/
  inbox : List PortInput
  /-- MODEL'S OWN (log 2): the responses given so far, oldest first. -/
  responses : List Response
  deriving DecidableEq, Repr

/-- No step of this hardware stops with a fault: every error of the spec is the sticky fault STATE of R170, which is
a next state (R18: "faults are a state (`fault = 1`), not an exception of the meta-language"). So there is no
constructor, nobody raises one, and that is safe: nothing is hidden (log 14). -/
inductive Fault where
  deriving DecidableEq, Repr

/-- Why a step may refuse an instruction. -/
inductive Refusal where
  /-- Raised by an arm of `exec` for an instruction without a meaning. Safe: the model stops where the hardware goes
  on. No arm raises it: all nine commands have their meaning. -/
  | notModelled (mnemonic : String)
  deriving DecidableEq, Repr

/-- A stage as construction leaves it: ring of `N[k]` zero samples, write position 0, countdown `M[k]` (R201). -/
def Stage.fresh (c : StageCfg) : Stage :=
  { cfg := c, ring := List.replicate c.taps.length C32.zero, wpos := 0, need := c.factor }

/-- A free binary32 pattern of drawing event `n` (log 8, 9). -/
def freeF32 (n : Nat) (path : List Nat) : F32 := BitVec.ofNat 32 (Config.free n path)

/-- Stage `k` after a reset with an invalid configuration: "every other element is unspecified" (R42), so free. -/
def Stage.unspecified (n k : Nat) (c : StageCfg) : Stage :=
  { cfg := c
    ring := (List.range c.taps.length).map fun j => ⟨freeF32 n [k, j, 0], freeF32 n [k, j, 1]⟩
    wpos := Config.free n [k, 0]
    need := Config.free n [k, 1] }

/-- Construction with a valid configuration (R201, R42). -/
def State.fresh (cfg : Cfg) (draws : Nat) : State :=
  { stages := cfg.map Stage.fresh
    ovl := false, ovc := 0#32
    sumI := 0#32, sumQ := 0#32, meanI := 0#32, meanQ := 0#32
    npairs := 0#31, outLen := 0#24, cap := 0#24, inCall := false
    fault := false, cause := 0x00#8
    draws := draws, inbox := [], responses := [] }

/-- Construction with an invalid configuration: FAULTED with the configuration cause, every other element
unspecified (R172, R42; log 9). -/
def State.rejected (cfg : Cfg) (c : Cause) (n : Nat) : State :=
  { stages := cfg.mapIdx (Stage.unspecified n)
    ovl := Config.free n [0] % 2 == 1, ovc := BitVec.ofNat 32 (Config.free n [1])
    sumI := freeF32 n [2], sumQ := freeF32 n [3], meanI := freeF32 n [4], meanQ := freeF32 n [5]
    npairs := BitVec.ofNat 31 (Config.free n [6]), outLen := BitVec.ofNat 24 (Config.free n [7])
    cap := BitVec.ofNat 24 (Config.free n [8]), inCall := Config.free n [9] % 2 == 1
    fault := true, cause := c.code
    draws := n + 1, inbox := [], responses := [] }

/-- The reset event for the configuration `cfg` (R200): check it, then construct. -/
def State.construct (cfg : Cfg) (draws : Nat) : State :=
  match cfgCause cfg with
  | none => State.fresh cfg draws
  | some c => State.rejected cfg c draws

/-- The machine right after reset with the configuration `Config.cfg` (R200, R42; log 4). -/
def State.reset : State := State.construct Config.cfg 0

end Sys2Proof.Machine
end

