-- ==== Sys2Proof/Machine/Operands.lean ====
section
/-!
DEFINITION. Operand forms: cyclic ring addressing, the only addressing mode (20_memory.md R52), ring and register
access, and the layout of responses (30_encoding.md R75).
-/

namespace Sys2Proof.Machine

/-- `M[k]` (R5). -/
def Stage.period (g : Stage) : Nat := g.cfg.factor

/-- `N[k]`, the tap count and ring size (R5, R51). -/
def Stage.size (g : Stage) : Nat := g.cfg.taps.length

/-- The load slot of tap `t`: `(wpos[k] + t) mod N[k]` (R52). -/
def Stage.tapSlot (g : Stage) (t : Nat) : Nat := (g.wpos + t) % g.size

/-- The write position after a store: 0 after the last slot (R52, R106(b)). -/
def Stage.nextWpos (g : Stage) : Nat := if g.wpos = g.size - 1 then 0 else g.wpos + 1

/-- `RingRead(k, j)` (R11). A slot outside the ring is never addressed by a rule (R51); what it would give is free
(log 10). -/
def Stage.ringRead (g : Stage) (j : Nat) : C32 := g.ring[j]?.getD (Config.noSlot j)

/-- `RingWrite(k, j, v)` (R11). There is no slot outside the ring to write (R51). -/
def Stage.ringWrite (g : Stage) (j : Nat) (v : C32) : Stage := { g with ring := g.ring.set j v }

/-- The configuration the instance was built with (R5), read back from the stages. -/
def State.cfg (s : State) : Cfg := s.stages.map (·.cfg)

/-- `TOTAL` (R30). -/
def State.total (s : State) : Nat := Cfg.total s.cfg

/-- `zext_32` of a one-bit register (R76). -/
def zextBit (b : Bool) : Word := (BitVec.ofBool b).zeroExtend 32

/-- A response header: `ERR[31]`, `CAUSE[23:16]`, `NPAY[7:0]`, all other bits zero (R75). -/
def responseHeader (err : Bool) (cause : BitVec 8) (npay : Nat) : Word :=
  BitVec.ofBool err ++ 0#7 ++ cause ++ 0#8 ++ BitVec.ofNat 8 npay

/-- The response of a successful command (R75, R76). -/
def okResponse (payload : List Word) : Response :=
  { header := responseHeader false 0x00#8 payload.length, payload := payload }

/-- The error response: the stored cause and no payload (R75, R170). -/
def errorResponse (cause : BitVec 8) : Response :=
  { header := responseHeader true cause 0, payload := [] }

end Sys2Proof.Machine
end

