-- ==== Sys2Proof/Machine/Flags.lean ====
section
/-!
DEFINITION. Condition computations: clipping (41_frontend.md R110), the ready condition (42_stage.md R123) and the
emission condition (43_pipeline.md R146), and the protocol phase (10_state.md R40).
-/

namespace Sys2Proof.Machine

/-- A byte clips iff it is 0 or 255 (R110, R106(h)). -/
def clipsByte (v : Byte) : Bool := v == 0#8 || v == 255#8

/-- A pair clips iff either byte does (R110). -/
def clips (i q : Byte) : Bool := clipsByte i || clipsByte q

/-- The pair about to come would emit: `need[k] = 1` for every stage (R140, R146). -/
def State.wouldEmit (s : State) : Bool := s.stages.all (fun g => g.need == 1)

/-- The largest pair count, `2^31 - 1`, at which PAIR raises CALL_TOO_LONG (R177). -/
def maxPairs : BitVec 31 := BitVec.ofNat 31 (2 ^ 31 - 1)

/-- The three protocol phases (R40). -/
inductive Phase where
  | idle
  | inCall
  | faulted
  deriving DecidableEq, Repr

/-- The phase of a state (R40). -/
def State.phase (s : State) : Phase :=
  if s.fault then .faulted else if s.inCall then .inCall else .idle

end Sys2Proof.Machine
end

