-- ==== Sys2Proof/Machine/Ops.lean ====
section
/-!
DEFINITION. The named operations every command is made of: answering (30_encoding.md R75), taking a fault
(60_exceptions.md R13, R170), the checks that come first (R170, R174), and the reset event (70_reset_and_hazards.md
R200). There is no return from a fault (R180): the reset event is the only way on.
-/

namespace Sys2Proof.Machine

/-- Give the one response of a command (R75): it joins the responses given, and the command leaves the port. -/
def State.respond (s : State) (r : Response) : State :=
  { s with inbox := s.inbox.tail, responses := s.responses ++ [r] }

/-- `respond OK` with the payload words (R76). -/
def State.answer (s : State) (payload : List Word) : State := s.respond (okResponse payload)

/-- The error header with the stored cause (R170). -/
def State.answerFaulted (s : State) : State := s.respond (errorResponse s.cause)

/-- Taking a fault, `raise X`: `fault <- 1; cause <- code(X)`, nothing else, and the error response (R13, R170,
R179). -/
def State.raise (s : State) (c : Cause) : State :=
  State.answerFaulted { s with fault := true, cause := c.code }

/-- The check that comes first in every command: a FAULTED block answers the error header and writes nothing
(R170, R178(1)). -/
def State.unlessFaulted (s : State) (body : State → State) : State :=
  if s.fault then s.answerFaulted else body s

/-- A command that is legal in IDLE only (R174). -/
def State.whenIdle (s : State) (body : State → State) : State :=
  s.unlessFaulted fun s => if s.inCall then s.raise .protocol else body s

/-- A command that is legal in IN_CALL only (R174). -/
def State.whenInCall (s : State) (body : State → State) : State :=
  s.unlessFaulted fun s => if s.inCall then body s else s.raise .protocol

/-- An illegal command word (R173, R178(2)). -/
def State.illegalWord (s : State) : State := s.unlessFaulted fun s => s.raise .illegalCommand

/-- The reset event: construction with a new configuration, in any phase (R200). The ports are outside the block:
the inputs behind the event wait, the responses given stay given. -/
def State.hostReset (s : State) (cfg : Cfg) : State :=
  { State.construct cfg s.draws with inbox := s.inbox.tail, responses := s.responses }

end Sys2Proof.Machine
end

