-- ==== Sys2Proof/Machine/Accessors.lean ====
section
/-!
DEFINITION. The five read commands (44_accessors.md), each legal in IDLE only.
-/

namespace Sys2Proof.Machine

/-- RDTOT (R160). -/
def execRdtot (s : State) : Host.Outcome State Fault Refusal :=
  .next (s.whenIdle fun s => s.answer [BitVec.ofNat 32 s.total])

/-- RDMI (R161). -/
def execRdmi (s : State) : Host.Outcome State Fault Refusal :=
  .next (s.whenIdle fun s => s.answer [s.meanI])

/-- RDMQ (R162). -/
def execRdmq (s : State) : Host.Outcome State Fault Refusal :=
  .next (s.whenIdle fun s => s.answer [s.meanQ])

/-- RDOVL: the flag as it was, then cleared (R163). -/
def execRdovl (s : State) : Host.Outcome State Fault Refusal :=
  .next (s.whenIdle fun s => State.answer { s with ovl := false } [zextBit s.ovl])

/-- RDOVC: the count as it was, then zeroed (R164). -/
def execRdovc (s : State) : Host.Outcome State Fault Refusal :=
  .next (s.whenIdle fun s => State.answer { s with ovc := 0#32 } [s.ovc])

end Sys2Proof.Machine
end

