-- ==== Sys2Proof/Machine/Float.lean ====
section
/-!
DEFINITION. Binary32 arithmetic (40_numerics.md R91-R99): the format, the one rounding, and the scalar functions.
A finite value is a whole number of units of 2^-149, so exact results are integers or fractions of integers, rounded
once.
-/

namespace Sys2Proof.Machine

/-- The sign bit `s` (R91). -/
def F32.neg (a : F32) : Bool := a.getLsbD 31

/-- The biased exponent `e` (R91). -/
def F32.exp (a : F32) : Nat := (a.extractLsb' 23 8).toNat

/-- The fraction `f` (R91). -/
def F32.frac (a : F32) : Nat := (a.extractLsb' 0 23).toNat

/-- `e = 255, f != 0` (R91). -/
def F32.isNan (a : F32) : Bool := F32.exp a == 255 && F32.frac a != 0

/-- A NaN with bit 22 set (R91). -/
def F32.isQuietNan (a : F32) : Bool := F32.isNan a && a.getLsbD 22

/-- `e = 255, f = 0` (R91). -/
def F32.isInf (a : F32) : Bool := F32.exp a == 255 && F32.frac a == 0

/-- A zero, a subnormal or a normal number (R91). -/
def F32.isFinite (a : F32) : Bool := F32.exp a != 255

/-- `+0.0` or `-0.0` (R91). -/
def F32.isZero (a : F32) : Bool := F32.exp a == 0 && F32.frac a == 0

/-- The magnitude of a finite datum in units of 2^-149: `f` if `e = 0`, else `(2^23 + f) * 2^(e-1)` (R91). -/
def F32.units (a : F32) : Nat :=
  if F32.exp a = 0 then F32.frac a else (2 ^ 23 + F32.frac a) * 2 ^ (F32.exp a - 1)

/-- The value of a finite datum in units of 2^-149, with its sign (R91). -/
def F32.value (a : F32) : Int := if F32.neg a then -(F32.units a : Int) else (F32.units a : Int)

/-- The pattern with the given sign and the 31 magnitude bits `mag` (R91). -/
def F32.pack (neg : Bool) (mag : Nat) : F32 := BitVec.ofNat 32 ((if neg then 2 ^ 31 else 0) + mag)

/-- The magnitude bits of an infinity: `e = 255, f = 0` (R91). -/
def infMag : Nat := 255 * 2 ^ 23

/-- An infinity (R91). -/
def F32.inf (neg : Bool) : F32 := F32.pack neg infMag

/-- The whole number nearest to `n / d`, ties to even (R92). -/
def roundEven (n d : Nat) : Nat :=
  if 2 * (n % d) < d then n / d
  else if d < 2 * (n % d) then n / d + 1
  else n / d + n / d % 2

/-- The magnitude bits of `RN32` of `n / d` units of 2^-149 (R92). The spacing of binary32 there is `2^k` units; the
rounded multiple of it, added to `k * 2^23`, is the pattern, carries included; from `2^128 - 2^103` on the result is
the infinity. Below the normal range `k` is 0, which is gradual underflow (R99). -/
def roundMag (n d : Nat) : Nat :=
  let k := (n / d).log2 - 23
  min infMag (k * 2 ^ 23 + roundEven n (d * 2 ^ k))

/-- `RN32` of a signed fraction of units of 2^-149 (R92). -/
def rn32 (neg : Bool) (n d : Nat) : F32 := F32.pack neg (roundMag n d)

/-- The NaN an operation returns when it must return one: a quiet NaN, sign and payload free (R98; log 6). -/
def quietNan (op : FpOp) (a b : F32) : F32 := Config.freeNan op a b ||| 0x7FC00000#32

/-- The sum of two finite data: the exact sum rounded once; an exact zero is `-0.0` only for `(-0.0) + (-0.0)`
(R93). -/
def finiteAdd (a b : F32) : F32 :=
  let z := F32.value a + F32.value b
  if z = 0 then F32.pack (F32.neg a && F32.neg b) 0 else rn32 (decide (z < 0)) z.natAbs 1

/-- `fadd` (R93). The sum of two infinities of one sign is that infinity, which R93 does not write out: PRESUMED
(log 7). -/
def fadd (a b : F32) : F32 :=
  if F32.isNan a || F32.isNan b then quietNan .fadd a b
  else if F32.isInf a then
    if F32.isInf b && F32.neg a != F32.neg b then quietNan .fadd a b else a
  else if F32.isInf b then b
  else finiteAdd a b

/-- `fmul` (R94): the sign is the XOR of the signs, also of a zero. The product of two data is a whole number of
units of 2^-298. -/
def fmul (a b : F32) : F32 :=
  let neg := F32.neg a != F32.neg b
  if F32.isNan a || F32.isNan b then quietNan .fmul a b
  else if F32.isInf a || F32.isInf b then
    if F32.isZero a || F32.isZero b then quietNan .fmul a b else F32.inf neg
  else rn32 neg (F32.units a * F32.units b) (2 ^ 149)

/-- `fdiv` (R95). PRESUMED (log 7), since R95 does not write them out: a NaN operand gives a NaN, as it does in R93 and
R94; the sign is the XOR of the signs, of a zero quotient too; `inf / finite` is an infinity and `finite / inf` a zero. END never divides by zero, by an infinity or by a NaN. -/
def fdiv (a b : F32) : F32 :=
  let neg := F32.neg a != F32.neg b
  if F32.isNan a || F32.isNan b then quietNan .fdiv a b
  else if F32.isInf a then
    if F32.isInf b then quietNan .fdiv a b else F32.inf neg
  else if F32.isInf b then F32.pack neg 0
  else if F32.isZero b then
    if F32.isZero a then quietNan .fdiv a b else F32.inf neg
  else rn32 neg (F32.units a * 2 ^ 149) (F32.units b)

/-- `fabs`: bit 31 cleared (R96). -/
def fabs (a : F32) : F32 := a &&& 0x7FFFFFFF#32

/-- `u2f(n) = RN32(n)` (R97). -/
def u2f (n : Nat) : F32 := rn32 false (n * 2 ^ 149) 1

end Sys2Proof.Machine
end

