-- ==== Sys2Proof/Machine/NormRom.lean ====
section
/-!
DEFINITION. The normalizer ROM: the 256-entry table of 41_frontend.md R112, copied entry by entry.
-/

namespace Sys2Proof.Machine

/-- Entries 0 to 63 of R112. -/
def normRom0 : List F32 :=
  [0xBF800000#32, 0xBF7DFDFE#32, 0xBF7BFBFC#32, 0xBF79F9FA#32,
   0xBF77F7F8#32, 0xBF75F5F6#32, 0xBF73F3F4#32, 0xBF71F1F2#32,
   0xBF6FEFF0#32, 0xBF6DEDEE#32, 0xBF6BEBEC#32, 0xBF69E9EA#32,
   0xBF67E7E8#32, 0xBF65E5E6#32, 0xBF63E3E4#32, 0xBF61E1E2#32,
   0xBF5FDFE0#32, 0xBF5DDDDE#32, 0xBF5BDBDC#32, 0xBF59D9DA#32,
   0xBF57D7D8#32, 0xBF55D5D6#32, 0xBF53D3D4#32, 0xBF51D1D2#32,
   0xBF4FCFD0#32, 0xBF4DCDCE#32, 0xBF4BCBCC#32, 0xBF49C9CA#32,
   0xBF47C7C8#32, 0xBF45C5C6#32, 0xBF43C3C4#32, 0xBF41C1C2#32,
   0xBF3FBFC0#32, 0xBF3DBDBE#32, 0xBF3BBBBC#32, 0xBF39B9BA#32,
   0xBF37B7B8#32, 0xBF35B5B6#32, 0xBF33B3B4#32, 0xBF31B1B2#32,
   0xBF2FAFB0#32, 0xBF2DADAE#32, 0xBF2BABAC#32, 0xBF29A9AA#32,
   0xBF27A7A8#32, 0xBF25A5A6#32, 0xBF23A3A4#32, 0xBF21A1A2#32,
   0xBF1F9FA0#32, 0xBF1D9D9E#32, 0xBF1B9B9C#32, 0xBF19999A#32,
   0xBF179798#32, 0xBF159596#32, 0xBF139394#32, 0xBF119192#32,
   0xBF0F8F90#32, 0xBF0D8D8E#32, 0xBF0B8B8C#32, 0xBF09898A#32,
   0xBF078788#32, 0xBF058586#32, 0xBF038384#32, 0xBF018182#32]

/-- Entries 64 to 127 of R112. -/
def normRom1 : List F32 :=
  [0xBEFEFEFF#32, 0xBEFAFAFB#32, 0xBEF6F6F7#32, 0xBEF2F2F3#32,
   0xBEEEEEEF#32, 0xBEEAEAEB#32, 0xBEE6E6E7#32, 0xBEE2E2E3#32,
   0xBEDEDEDF#32, 0xBEDADADB#32, 0xBED6D6D7#32, 0xBED2D2D3#32,
   0xBECECECF#32, 0xBECACACB#32, 0xBEC6C6C7#32, 0xBEC2C2C3#32,
   0xBEBEBEBF#32, 0xBEBABABB#32, 0xBEB6B6B7#32, 0xBEB2B2B3#32,
   0xBEAEAEAF#32, 0xBEAAAAAB#32, 0xBEA6A6A7#32, 0xBEA2A2A3#32,
   0xBE9E9E9F#32, 0xBE9A9A9B#32, 0xBE969697#32, 0xBE929293#32,
   0xBE8E8E8F#32, 0xBE8A8A8B#32, 0xBE868687#32, 0xBE828283#32,
   0xBE7CFCFD#32, 0xBE74F4F5#32, 0xBE6CECED#32, 0xBE64E4E5#32,
   0xBE5CDCDD#32, 0xBE54D4D5#32, 0xBE4CCCCD#32, 0xBE44C4C5#32,
   0xBE3CBCBD#32, 0xBE34B4B5#32, 0xBE2CACAD#32, 0xBE24A4A5#32,
   0xBE1C9C9D#32, 0xBE149495#32, 0xBE0C8C8D#32, 0xBE048485#32,
   0xBDF8F8F9#32, 0xBDE8E8E9#32, 0xBDD8D8D9#32, 0xBDC8C8C9#32,
   0xBDB8B8B9#32, 0xBDA8A8A9#32, 0xBD989899#32, 0xBD888889#32,
   0xBD70F0F1#32, 0xBD50D0D1#32, 0xBD30B0B1#32, 0xBD109091#32,
   0xBCE0E0E1#32, 0xBCA0A0A1#32, 0xBC40C0C1#32, 0xBB808081#32]

/-- Entries 128 to 191 of R112. -/
def normRom2 : List F32 :=
  [0x3B808081#32, 0x3C40C0C1#32, 0x3CA0A0A1#32, 0x3CE0E0E1#32,
   0x3D109091#32, 0x3D30B0B1#32, 0x3D50D0D1#32, 0x3D70F0F1#32,
   0x3D888889#32, 0x3D989899#32, 0x3DA8A8A9#32, 0x3DB8B8B9#32,
   0x3DC8C8C9#32, 0x3DD8D8D9#32, 0x3DE8E8E9#32, 0x3DF8F8F9#32,
   0x3E048485#32, 0x3E0C8C8D#32, 0x3E149495#32, 0x3E1C9C9D#32,
   0x3E24A4A5#32, 0x3E2CACAD#32, 0x3E34B4B5#32, 0x3E3CBCBD#32,
   0x3E44C4C5#32, 0x3E4CCCCD#32, 0x3E54D4D5#32, 0x3E5CDCDD#32,
   0x3E64E4E5#32, 0x3E6CECED#32, 0x3E74F4F5#32, 0x3E7CFCFD#32,
   0x3E828283#32, 0x3E868687#32, 0x3E8A8A8B#32, 0x3E8E8E8F#32,
   0x3E929293#32, 0x3E969697#32, 0x3E9A9A9B#32, 0x3E9E9E9F#32,
   0x3EA2A2A3#32, 0x3EA6A6A7#32, 0x3EAAAAAB#32, 0x3EAEAEAF#32,
   0x3EB2B2B3#32, 0x3EB6B6B7#32, 0x3EBABABB#32, 0x3EBEBEBF#32,
   0x3EC2C2C3#32, 0x3EC6C6C7#32, 0x3ECACACB#32, 0x3ECECECF#32,
   0x3ED2D2D3#32, 0x3ED6D6D7#32, 0x3EDADADB#32, 0x3EDEDEDF#32,
   0x3EE2E2E3#32, 0x3EE6E6E7#32, 0x3EEAEAEB#32, 0x3EEEEEEF#32,
   0x3EF2F2F3#32, 0x3EF6F6F7#32, 0x3EFAFAFB#32, 0x3EFEFEFF#32]

/-- Entries 192 to 255 of R112. -/
def normRom3 : List F32 :=
  [0x3F018182#32, 0x3F038384#32, 0x3F058586#32, 0x3F078788#32,
   0x3F09898A#32, 0x3F0B8B8C#32, 0x3F0D8D8E#32, 0x3F0F8F90#32,
   0x3F119192#32, 0x3F139394#32, 0x3F159596#32, 0x3F179798#32,
   0x3F19999A#32, 0x3F1B9B9C#32, 0x3F1D9D9E#32, 0x3F1F9FA0#32,
   0x3F21A1A2#32, 0x3F23A3A4#32, 0x3F25A5A6#32, 0x3F27A7A8#32,
   0x3F29A9AA#32, 0x3F2BABAC#32, 0x3F2DADAE#32, 0x3F2FAFB0#32,
   0x3F31B1B2#32, 0x3F33B3B4#32, 0x3F35B5B6#32, 0x3F37B7B8#32,
   0x3F39B9BA#32, 0x3F3BBBBC#32, 0x3F3DBDBE#32, 0x3F3FBFC0#32,
   0x3F41C1C2#32, 0x3F43C3C4#32, 0x3F45C5C6#32, 0x3F47C7C8#32,
   0x3F49C9CA#32, 0x3F4BCBCC#32, 0x3F4DCDCE#32, 0x3F4FCFD0#32,
   0x3F51D1D2#32, 0x3F53D3D4#32, 0x3F55D5D6#32, 0x3F57D7D8#32,
   0x3F59D9DA#32, 0x3F5BDBDC#32, 0x3F5DDDDE#32, 0x3F5FDFE0#32,
   0x3F61E1E2#32, 0x3F63E3E4#32, 0x3F65E5E6#32, 0x3F67E7E8#32,
   0x3F69E9EA#32, 0x3F6BEBEC#32, 0x3F6DEDEE#32, 0x3F6FEFF0#32,
   0x3F71F1F2#32, 0x3F73F3F4#32, 0x3F75F5F6#32, 0x3F77F7F8#32,
   0x3F79F9FA#32, 0x3F7BFBFC#32, 0x3F7DFDFE#32, 0x3F800000#32]

/-- The table of R112. -/
def normRom : List F32 := normRom0 ++ (normRom1 ++ (normRom2 ++ normRom3))

/-- `NORM[v]` (R111, R112). -/
def normEntry (v : Byte) : F32 := normRom.getD v.toNat 0#32

end Sys2Proof.Machine
end

