-- ==== Sys2Proof/Machine/Numerics.lean ====
section
/-!
DEFINITION. The numerics record (40_numerics.md R90) with the IEEE instance the machine uses, and the complex
operations over it (R101, R102, R104).
-/

namespace Sys2Proof.Machine

/-- The six functions every floating-point result comes from (R90). A configuration record, not state: the datapath
below is written over any of them. -/
structure Numerics where
  fadd : F32 → F32 → F32
  fmul : F32 → F32 → F32
  fdiv : F32 → F32 → F32
  fabs : F32 → F32
  u2f : Nat → F32
  norm : Byte → F32

/-- The IEEE instance (R91-R99, R112): the one the machine runs on (log 5). -/
def numerics : Numerics :=
  { fadd := fadd, fmul := fmul, fdiv := fdiv, fabs := fabs, u2f := u2f, norm := normEntry }

/-- `cadd`: lane-wise addition (R101). -/
def cadd (nu : Numerics) (x y : C32) : C32 := ⟨nu.fadd x.re y.re, nu.fadd x.im y.im⟩

/-- `smul`: a real scalar times a complex sample, lane-wise (R102). -/
def smul (nu : Numerics) (c : F32) (x : C32) : C32 := ⟨nu.fmul c x.re, nu.fmul c x.im⟩

/-- CMAC: each product is rounded before it is added; no fusion (R103, R104). -/
def cmac (nu : Numerics) (acc : C32) (c : F32) (x : C32) : C32 :=
  ⟨nu.fadd acc.re (nu.fmul c x.re), nu.fadd acc.im (nu.fmul c x.im)⟩

end Sys2Proof.Machine
end

