-- ==== Sys2Proof/Machine/FirStage.lean ====
section
/-!
DEFINITION. The FIR stage: the micro-operations STG.ADD and STG.CALC (42_stage.md).
-/

namespace Sys2Proof.Machine

/-- STG.ADD: store at the write position, advance it, count down; true when an output is ready (R121). -/
def stgAdd (g : Stage) (x : C32) : Stage × Bool :=
  let stored := g.ringWrite g.wpos x
  let left := g.need - 1
  if left = 0 then ({ stored with wpos := g.nextWpos, need := g.period }, true)
  else ({ stored with wpos := g.nextWpos, need := left }, false)

/-- The taps `cs`, of which the first is tap number `t`, accumulated in order onto `acc` (R126, R103). -/
def accumulate (nu : Numerics) (g : Stage) : (t : Nat) → List F32 → C32 → C32
  | _, [], acc => acc
  | t, c :: cs, acc => accumulate nu g (t + 1) cs (cmac nu acc c (g.ringRead (g.tapSlot t)))

/-- STG.CALC: the inner product over the ring, tap 0 at the write position, from `(+0.0, +0.0)` (R126, R128). -/
def stgCalc (nu : Numerics) (g : Stage) : C32 := accumulate nu g 0 g.cfg.taps C32.zero

end Sys2Proof.Machine
end

