-- ==== Sys2Proof/Machine/FrontEnd.lean ====
section
/-!
DEFINITION. The I/Q normalizer front end: the micro-operations CLIP, NORM and ABSACC (41_frontend.md).
-/

namespace Sys2Proof.Machine

/-- CLIP: a clipping pair sets `ovl` and counts once, modulo 2^32 (R110, R166). -/
def State.clip (s : State) (i q : Byte) : State :=
  if clips i q then { s with ovl := true, ovc := s.ovc + 1#32 } else s

/-- NORM: the table serves both channels (R111). -/
def normalize (nu : Numerics) (i q : Byte) : C32 := ⟨nu.norm i, nu.norm q⟩

/-- ABSACC: add the magnitudes to the running sums (R114). -/
def State.absacc (s : State) (nu : Numerics) (x : C32) : State :=
  { s with sumI := nu.fadd s.sumI (nu.fabs x.re), sumQ := nu.fadd s.sumQ (nu.fabs x.im) }

end Sys2Proof.Machine
end

