-- ==== Sys2Proof/Machine/Pipeline.lean ====
section
/-!
DEFINITION. The pipeline commands NOP, BEGIN, PAIR and END, and the micro-operation EMIT (43_pipeline.md).
-/

namespace Sys2Proof.Machine

/-- The chain loop of PAIR's body: each stage takes the sample; the first that is not ready stops the chain, and
the later stages are not touched (R141, R145). The result is the emitted sample, if every stage was ready. -/
def chain (nu : Numerics) : List Stage → C32 → List Stage × Option C32
  | [], x => ([], some x)
  | g :: gs, x =>
    match stgAdd g x with
    | (g', true) =>
      let rest := chain nu gs (stgCalc nu g')
      (g' :: rest.1, rest.2)
    | (g', false) => (g' :: gs, none)

/-- EMIT: the sample goes to the host in the response, in-phase word first, and is counted (R142, R56). -/
def State.emit (s : State) (y : C32) : State :=
  State.answer { s with outLen := s.outLen + 1#24 } [y.re, y.im]

/-- The body of PAIR up to the chain: CLIP, ABSACC of the normalized sample, `npairs + 1` (R141). -/
def State.frontEnd (s : State) (nu : Numerics) (i q : Byte) : State :=
  let s := (s.clip i q).absacc nu (normalize nu i q)
  { s with npairs := s.npairs + 1#31 }

/-- The body of PAIR (R141). -/
def State.pairBody (s : State) (nu : Numerics) (i q : Byte) : State :=
  let out := chain nu s.stages (normalize nu i q)
  let s := { s.frontEnd nu i q with stages := out.1 }
  match out.2 with
  | some y => s.emit y
  | none => s.answer []

/-- PAIR's checks behind the protocol check, CALL_TOO_LONG before OUTPUT_CAPACITY (R140, R178). -/
def State.pairChecked (s : State) (nu : Numerics) (i q : Byte) : State :=
  if s.npairs = maxPairs then s.raise .callTooLong
  else if s.wouldEmit && s.outLen == s.cap then s.raise .outputCapacity
  else s.pairBody nu i q

/-- `raw_len`, the number of input bytes of the call (R31, R143). -/
def State.rawLen (s : State) : Nat := 2 * s.npairs.toNat

/-- The mean levels: the sums over the BYTE count (R143, R151); free values after a zero-length call (R152). -/
def State.writeMeans (s : State) (nu : Numerics) : State :=
  if s.npairs = 0#31 then
    { s with meanI := freeF32 s.draws [0], meanQ := freeF32 s.draws [1], draws := s.draws + 1 }
  else
    { s with meanI := nu.fdiv s.sumI (nu.u2f s.rawLen), meanQ := nu.fdiv s.sumQ (nu.u2f s.rawLen) }

/-- NOP (R144). -/
def execNop (s : State) : Host.Outcome State Fault Refusal :=
  .next (s.unlessFaulted fun s => s.answer [])

/-- BEGIN (R136). -/
def execBegin (cap : BitVec 24) (s : State) : Host.Outcome State Fault Refusal :=
  .next (s.whenIdle fun s =>
    State.answer
      { s with sumI := 0#32, sumQ := 0#32, npairs := 0#31, outLen := 0#24, cap := cap, inCall := true } [])

/-- PAIR (R140, R141). -/
def execPair (i q : Byte) (s : State) : Host.Outcome State Fault Refusal :=
  .next (s.whenInCall fun s => s.pairChecked numerics i q)

/-- END (R143). -/
def execEnd (s : State) : Host.Outcome State Fault Refusal :=
  .next (s.whenInCall fun s =>
    State.answer { s.writeMeans numerics with inCall := false } [s.outLen.zeroExtend 32])

end Sys2Proof.Machine
end

