-- ==== Sys2Proof/Machine/Dispatch.lean ====
section
/-!
DEFINITION. The dispatch: one arm per command, each one direct call of its meaning.
-/

namespace Sys2Proof.Machine

def exec (i : Instr) (s : State) : Host.Outcome State Fault Refusal :=
  match i with
  | .nop => Sys2Proof.Machine.execNop s
  | .beginCall cap => Sys2Proof.Machine.execBegin cap s
  | .pair iByte qByte => Sys2Proof.Machine.execPair iByte qByte s
  | .endCall => Sys2Proof.Machine.execEnd s
  | .rdtot => Sys2Proof.Machine.execRdtot s
  | .rdmi => Sys2Proof.Machine.execRdmi s
  | .rdmq => Sys2Proof.Machine.execRdmq s
  | .rdovl => Sys2Proof.Machine.execRdovl s
  | .rdovc => Sys2Proof.Machine.execRdovc s

end Sys2Proof.Machine
end

