-- ==== Sys2Proof/Machine/Step.lean ====
section
/-!
DEFINITION. One step: take the oldest input from the port and perform it (00_scope.md R14, R18; 20_memory.md R60).
-/

namespace Sys2Proof.Machine

/-- One step. With no input the block holds its state (R188); a reset event constructs it anew (R200); a legal
command word is performed (R170-R179 stand in the meanings), an illegal one raises ILLEGAL_COMMAND (R173). -/
def step (s : State) : Host.Outcome State Fault Refusal :=
  match s.inbox with
  | [] => .next s
  | .reset cfg :: _ => .next (s.hostReset cfg)
  | .command w :: _ =>
    match decode w with
    | .ok i => exec i s
    | .error _ => .next s.illegalWord

/-- The state with the command word `w` next on the command port (R70), before whatever waits there: the next step
performs exactly it. -/
def State.withFetchWord (s : State) (nbits w : Nat) : State :=
  { s with inbox := .command (tableWord nbits w) :: s.inbox }

end Sys2Proof.Machine
end

