-- ==== Sys2Proof/Machine/Driver.lean ====
section
/-!
DEFINITION. The driver macro DECIMATE (30_encoding.md R81, 43_pipeline.md R150): one call of the document's
`decimate`, as a sequence of commands.
-/

namespace Sys2Proof.Machine

/-- What DECIMATE returns (R150). -/
inductive DecimateResult where
  /-- The length is odd: no command was issued (R175). -/
  | malformedLength
  /-- A command was answered with ERR; the block is FAULTED with this cause. -/
  | fault (cause : BitVec 8)
  /-- The output samples in emission order and `output_len` (R56). -/
  | done (out : List C32) (outputLen : Word)
  deriving DecidableEq, Repr

/-- The PAIR commands of an input buffer: byte `2n` is I, byte `2n + 1` is Q (R54); none for an odd length. -/
def pairsOf : List Byte → Option (List Instr)
  | [] => some []
  | [_] => none
  | i :: q :: rest => (pairsOf rest).map (Instr.pair i q :: ·)

/-- The expansion of DECIMATE, or the driver's refusal (R81). -/
def expandDecimate (cap : BitVec 24) (bytes : List Byte) : Except Cause (List Instr) :=
  match pairsOf bytes with
  | none => .error .malformedLength
  | some ps => .ok (Instr.beginCall cap :: (ps ++ [Instr.endCall]))

/-- `ERR` of a response (R75). -/
def Response.err (r : Response) : Bool := r.header.getLsbD 31

/-- `CAUSE` of a response (R75). -/
def Response.cause (r : Response) : BitVec 8 := r.header.extractLsb' 16 8

/-- The emitted sample of a PAIR response: payload words 0 and 1 when `NPAY = 2` (R76). -/
def Response.sample (r : Response) : Option C32 :=
  match r.payload with
  | [re, im] => some ⟨re, im⟩
  | _ => none

/-- Issue one command: put its word first on the port, take one step, and read the response to it. -/
def issue (i : Instr) (s : State) : State × Option Response :=
  match step { s with inbox := .command (encode i) :: s.inbox } with
  | .next t => (t, t.responses.getLast?)
  | .fault _ => (s, none)
  | .refused _ => (s, none)

/-- Issue commands until one is answered with ERR, collecting the samples of the responses (R150). The result is the
state, the samples in order, and the response that ended the run: the last one, or the first with ERR. -/
def issueAll : List Instr → State → List C32 → State × List C32 × Option Response
  | [], s, out => (s, out, none)
  | i :: is, s, out =>
    match issue i s with
    | (t, none) => (t, out, none)
    | (t, some r) =>
      let out' := out ++ r.sample.toList
      if r.err then (t, out', some r)
      else match is with
        | [] => (t, out', some r)
        | _ :: _ => issueAll is t out'

/-- DECIMATE (R150). It is to be started in IDLE; in another phase the first response carries ERR and ends it
(log 16). -/
def decimate (cap : BitVec 24) (bytes : List Byte) (s : State) : State × DecimateResult :=
  match expandDecimate cap bytes with
  | .error _ => (s, .malformedLength)
  | .ok is =>
    match issueAll is s [] with
    | (t, out, some r) =>
      if r.err then (t, .fault r.cause) else (t, .done out (r.payload.headD 0#32))
    | (t, out, none) => (t, .done out 0#32)

end Sys2Proof.Machine
end

