-- ==== Sys2Proof/Machine/Assembler.lean ====
section
/-!
DEFINITION. The assembler text of 30_encoding.md R80 and its pseudo-instruction DECIMATE (R81), on lists of
characters.
-/

namespace Sys2Proof.Machine

/-- Why a line is refused. Where a line could be refused for several reasons the spec does not say which is given; the
order is the model's, DESIGN CHOICE (log 21). -/
inductive AsmError where
  | unknownMnemonic
  | operandCount
  | notANumber
  /-- "The assembler refuses an operand outside its range" (R80). -/
  | outOfRange
  /-- DECIMATE with an odd number of bytes (R81, R175). -/
  | malformedLength
  deriving DecidableEq, Repr

/-- Spaces and tabs separate (log 21). -/
def isBlankChar (c : Char) : Bool := c == ' ' || c == '\t'

/-- A word without the blanks around it. -/
def trimBlanks (cs : List Char) : List Char :=
  ((cs.dropWhile isBlankChar).reverse.dropWhile isBlankChar).reverse

/-- The value of a digit, upper or lower case (log 21). -/
def digitValue (c : Char) : Nat :=
  if '0' ≤ c && c ≤ '9' then c.toNat - '0'.toNat
  else if 'a' ≤ c && c ≤ 'f' then c.toNat - 'a'.toNat + 10
  else if 'A' ≤ c && c ≤ 'F' then c.toNat - 'A'.toNat + 10
  else 16

/-- The number the digits `cs` write in `base`, continued from `acc`. -/
def digitsValue (base : Nat) : List Char → Nat → Option Nat
  | [], acc => some acc
  | c :: cs, acc =>
    if digitValue c < base then digitsValue base cs (acc * base + digitValue c) else none

/-- An operand, decimal or `0x` hexadecimal (R80). -/
def operandValue (cs : List Char) : Except AsmError Nat :=
  match cs with
  | '0' :: 'x' :: d :: ds => (digitsValue 16 (d :: ds) 0).elim (.error .notANumber) .ok
  | d :: ds => (digitsValue 10 (d :: ds) 0).elim (.error .notANumber) .ok
  | [] => .error .notANumber

/-- The fields between the commas (R80). -/
def splitCommas : List Char → List (List Char)
  | [] => [[]]
  | c :: cs =>
    if c == ',' then [] :: splitCommas cs
    else match splitCommas cs with
      | [] => [[c]]
      | w :: ws => (c :: w) :: ws

/-- The operands of a line: none if nothing stands there (R80). -/
def operandValues (cs : List Char) : Except AsmError (List Nat) :=
  if (trimBlanks cs).isEmpty then .ok []
  else (splitCommas cs).mapM fun w => operandValue (trimBlanks w)

/-- An operand of `width` bits; refused outside its range (R80). -/
def asmField (width n : Nat) : Except AsmError (BitVec width) :=
  if n < 2 ^ width then .ok (BitVec.ofNat width n) else .error .outOfRange

/-- A command without operands (R80). -/
def asmPlain (i : Instr) (ops : List Nat) : Except AsmError (List Instr) :=
  match ops with
  | [] => .ok [i]
  | _ :: _ => .error .operandCount

/-- `BEGIN cap` (R80). -/
def asmBegin (ops : List Nat) : Except AsmError (List Instr) :=
  match ops with
  | [cap] => do
    let c ← asmField 24 cap
    .ok [.beginCall c]
  | _ => .error .operandCount

/-- `PAIR i, q`, I first (R80). -/
def asmPair (ops : List Nat) : Except AsmError (List Instr) :=
  match ops with
  | [i, q] => do
    let i ← asmField 8 i
    let q ← asmField 8 q
    .ok [.pair i q]
  | _ => .error .operandCount

/-- `DECIMATE cap, b0, b1, ...` (R81). Where a line has both an operand out of its range (R80) and an odd number of bytes
(R81, R175) the spec does not say which refusal is given: the model answers `outOfRange`. DESIGN CHOICE (log 21). -/
def asmDecimate (ops : List Nat) : Except AsmError (List Instr) :=
  match ops with
  | [] => .error .operandCount
  | cap :: bs => do
    let c ← asmField 24 cap
    let bytes ← bs.mapM (asmField 8)
    match expandDecimate c bytes with
    | .ok is => .ok is
    | .error _ => .error .malformedLength

/-- One mnemonic with its operands (R80, R81). -/
def assemble (mnemonic : List Char) (ops : List Nat) : Except AsmError (List Instr) :=
  if mnemonic = ['N', 'O', 'P'] then asmPlain .nop ops
  else if mnemonic = ['B', 'E', 'G', 'I', 'N'] then asmBegin ops
  else if mnemonic = ['P', 'A', 'I', 'R'] then asmPair ops
  else if mnemonic = ['E', 'N', 'D'] then asmPlain .endCall ops
  else if mnemonic = ['R', 'D', 'T', 'O', 'T'] then asmPlain .rdtot ops
  else if mnemonic = ['R', 'D', 'M', 'I'] then asmPlain .rdmi ops
  else if mnemonic = ['R', 'D', 'M', 'Q'] then asmPlain .rdmq ops
  else if mnemonic = ['R', 'D', 'O', 'V', 'L'] then asmPlain .rdovl ops
  else if mnemonic = ['R', 'D', 'O', 'V', 'C'] then asmPlain .rdovc ops
  else if mnemonic = ['D', 'E', 'C', 'I', 'M', 'A', 'T', 'E'] then asmDecimate ops
  else .error .unknownMnemonic

/-- One line of assembler text: `;` starts a comment, and a line with no command gives no command (R80). -/
def assembleLine (line : List Char) : Except AsmError (List Instr) :=
  let text := trimBlanks (line.takeWhile (· != ';'))
  let mnemonic := text.takeWhile (fun c => !isBlankChar c)
  if mnemonic.isEmpty then .ok []
  else do
    let ops ← operandValues (text.dropWhile (fun c => !isBlankChar c))
    assemble mnemonic ops

end Sys2Proof.Machine
end

