-- ==== Sys2Proof/Safety.lean ====
section
/-!
DEFINITION. What claims about the machine are stated in: the shape of a state (10_state.md R39), the counting laws
(R39(f), (g)), the legality table (60_exceptions.md R174), and the sample windows (42_stage.md R129).
-/

namespace Sys2Proof.Machine

/-- R39(a), (b), (c) for one stage. -/
abbrev Stage.Wf (g : Stage) : Prop :=
  g.ring.length = g.size ∧ g.wpos < g.size ∧ 1 ≤ g.need ∧ g.need ≤ g.period

/-- The instance was built with a valid configuration (R6). -/
abbrev State.validCfg (s : State) : Prop := Cfg.valid s.cfg = true

/-- R39(a) to (e), for an instance built with a valid configuration; one built with an invalid configuration is
FAULTED (R172). -/
abbrev State.Inv (s : State) : Prop :=
  (s.fault = false → s.cause = 0x00#8)
    ∧ (s.validCfg → (∀ g ∈ s.stages, g.Wf) ∧ (s.inCall = true → s.outLen ≤ s.cap))
    ∧ (¬ s.validCfg → s.fault = true)

/-- R39(f), (g): the first of these stages has accepted `a` samples since reset, each later one the whole part of
its predecessor's count over its predecessor's factor. -/
def countedBy : (a : Nat) → List Stage → Bool
  | _, [] => true
  | a, g :: gs =>
    g.wpos == a % g.size && g.need == g.period - a % g.period && countedBy (a / g.period) gs

/-- The legality table of R174 for a block that is not FAULTED. -/
def legalIn (i : Instr) (inCall : Bool) : Bool :=
  match i with
  | .nop => true
  | .beginCall _ => !inCall
  | .pair _ _ => inCall
  | .endCall => inCall
  | .rdtot => !inCall
  | .rdmi => !inCall
  | .rdmq => !inCall
  | .rdovl => !inCall
  | .rdovc => !inCall

/-- The window of a stage in tap order: what tap `0, 1, ..., N-1` of STG.CALC meets (R128, R129). -/
def Stage.window (g : Stage) : List C32 := (List.range g.size).map fun t => g.ringRead (g.tapSlot t)

/-- A stage after it has accepted the samples `xs` in order (R121). -/
def Stage.acceptAll (g : Stage) (xs : List C32) : Stage := xs.foldl (fun g x => (stgAdd g x).1) g

/-- The sample stage `k` is given, if every stage before it is ready (R141). -/
def sampleInto (nu : Numerics) : List Stage → C32 → (k : Nat) → C32
  | _, x, 0 => x
  | [], x, _ + 1 => x
  | g :: gs, x, k + 1 => sampleInto nu gs (stgCalc nu (stgAdd g x).1) k

/-- Perform commands one after another, each a legal word on the port. -/
def runCommands : List Instr → State → State
  | [], s => s
  | i :: is, s => runCommands is (issue i s).1

/-- The emitted samples among responses, in order (R56, R76). -/
def emissions (rs : List Response) : List C32 := rs.filterMap Response.sample

/-- The number of emissions among the `n` pairs that follow the first `p` since reset (R147). -/
def emissionCount (cfg : Cfg) (p n : Nat) : Nat := (p + n) / Cfg.total cfg - p / Cfg.total cfg

/-- R107(c), R114(c): a running sum after `n` pairs is finite, not negative, at most `n` and at most `2^24`. -/
abbrev sumBounded (n : Nat) (a : F32) : Prop :=
  F32.isFinite a = true ∧ F32.neg a = false ∧ F32.units a ≤ min n (2 ^ 24) * 2 ^ 149

end Sys2Proof.Machine
end

