-- ==== Sys2Proof/Certificates/Slice0/Obligations.lean ====
section
/-!
DEFINITION. The statements about the machine, from the spec's numbered rules. Statements about the datapath are over
every numerics record (40_numerics.md R90) unless they are about binary32 itself. In every statement `inbox` and
`responses` are the two ports as the model keeps them (log 1, 2): the command word given leaves the one, the response
the rule gives joins the other.
-/

open Sys2Proof Sys2Proof.Machine

/-! ## Encoding (30_encoding.md) -/

/-- R78: "Encoding is the inverse": decoding an encoded command gives it back, at every operand value. -/
def Obligations.DecodeOfEncodeIsTheCommand : Prop :=
  ∀ i : Instr, decode (encode i) = .ok i

/-- 95_test_vectors.md T-E2: "for every legal word `W`, `encode(decode(W)) = W`": decoding drops no bit. -/
def Obligations.EncodeOfDecodeIsTheWord : Prop :=
  ∀ (w : Word) (i : Instr), decode w = .ok i → encode i = w

/-- R77(a) to (d): a word is refused exactly when `OP` is in `0x9 .. 0xF`, or `RSV != 0`, or it is a PAIR word with
`W[23:16] != 0`, or an operand-less command with `ARG != 0`. -/
def Obligations.IllegalWordsAreExactlyTheReservedOnes : Prop :=
  ∀ w : Word, (∃ e, decode w = .error e) ↔
    (9 ≤ (w.extractLsb 31 28).toNat
      ∨ (w.extractLsb 27 24).toNat ≠ 0
      ∨ ((w.extractLsb 31 28).toNat = 2 ∧ (w.extractLsb 23 16).toNat ≠ 0)
      ∨ ((w.extractLsb 31 28).toNat ∈ [0, 3, 4, 5, 6, 7, 8] ∧ (w.extractLsb 23 0).toNat ≠ 0))

/-- R77: "of the 2^32 words, exactly `1 + 2^24 + 2^16 + 1 + 5 = 16842759` are legal". -/
def Obligations.LegalWordCount : Prop :=
  Nat.card { w : Word // ∃ i, decode w = .ok i } = 16842759

/-- 95_test_vectors.md T-E1: sample words, legal and illegal. -/
def Obligations.SampleWordsDecode : Prop :=
  decode 0x00000000#32 = .ok .nop
    ∧ decode 0x10FFFFFF#32 = .ok (.beginCall 0xFFFFFF#24)
    ∧ decode 0x20008000#32 = .ok (.pair 0#8 128#8)
    ∧ decode 0x2000FE01#32 = .ok (.pair 1#8 254#8)
    ∧ decode 0x30000000#32 = .ok .endCall
    ∧ decode 0x40000000#32 = .ok .rdtot
    ∧ decode 0x50000000#32 = .ok .rdmi
    ∧ decode 0x60000000#32 = .ok .rdmq
    ∧ decode 0x70000000#32 = .ok .rdovl
    ∧ decode 0x80000000#32 = .ok .rdovc
    ∧ decode 0x00000001#32 = .error .operand
    ∧ decode 0x11000000#32 = .error .reserved
    ∧ decode 0x20010000#32 = .error .pairZero
    ∧ decode 0x90000000#32 = .error .opcode

/-- R80: "The assembler refuses an operand outside its range", and takes one inside it. -/
def Obligations.AssemblerChecksOperandRanges : Prop :=
  (∀ n : Nat, assemble ['B', 'E', 'G', 'I', 'N'] [n] =
      if n ≤ 16777215 then .ok [.beginCall (BitVec.ofNat 24 n)] else .error .outOfRange)
    ∧ ∀ i q : Nat, assemble ['P', 'A', 'I', 'R'] [i, q] =
      if i ≤ 255 ∧ q ≤ 255 then .ok [.pair (BitVec.ofNat 8 i) (BitVec.ofNat 8 q)] else .error .outOfRange

/-! ## The step and the ports -/

/-- R14, R18: when the oldest input is a legal command word, the step is the execution of its command; the word leaves
the port and the response joins the responses inside `exec` (`EveryCommandWordIsAnsweredOnce`). -/
def Obligations.StepPerformsTheNextCommand : Prop :=
  ∀ (s : State) (w : Word) (rest : List PortInput) (i : Instr),
    s.inbox = .command w :: rest → decode w = .ok i → step s = exec i s

/-- R18, R224: the step is total: it always answers a next state, never a stop. -/
def Obligations.EveryStepAnswersANextState : Prop :=
  ∀ s : State, ∃ t, step s = .next t

/-- R188: between commands the block holds its state unchanged (the empty port is the model's, log 1). -/
def Obligations.EmptyPortHoldsTheState : Prop :=
  ∀ s : State, s.inbox = [] → step s = .next s

/-- R75: every command word, legal or not, is answered by exactly one response with the header fields R75 gives. -/
def Obligations.EveryCommandWordIsAnsweredOnce : Prop :=
  ∀ (s : State) (w : Word) (rest : List PortInput), s.inbox = .command w :: rest →
    ∃ t r, step s = .next t ∧ t.inbox = rest ∧ t.responses = s.responses ++ [r]
      ∧ r.header.getLsbD 31 = t.fault
      ∧ r.header.extractLsb 30 24 = 0
      ∧ r.header.extractLsb 23 16 = (if t.fault then t.cause else 0x00#8)
      ∧ r.header.extractLsb 15 8 = 0
      ∧ (r.header.extractLsb 7 0).toNat = r.payload.length
      ∧ r.payload.length ≤ 2
      ∧ (t.fault = true → r = ⟨0x80000000#32 ||| (t.cause.zeroExtend 32 <<< 16), []⟩)
      ∧ (t.fault = false → r.header = 0x00000000#32 ∨ r.header = 0x00000001#32 ∨ r.header = 0x00000002#32)

/-! ## Faults (60_exceptions.md) -/

/-- R170: raising writes `fault` and `cause` and answers the error header; a FAULTED block answers every later word,
legal or not, with the stored cause and writes nothing; only reset leaves FAULTED. -/
def Obligations.FaultedBlockAnswersTheStoredCause : Prop :=
  (∀ (s : State) (c : Cause), s.raise c =
      { s with
        fault := true, cause := c.code, inbox := s.inbox.tail
        responses := s.responses ++ [⟨0x80000000#32 ||| (c.code.zeroExtend 32 <<< 16), []⟩] })
    ∧ (∀ (s : State) (w : Word) (rest : List PortInput), s.inbox = .command w :: rest → s.fault = true →
        step s = .next
          { s with
            inbox := rest
            responses := s.responses ++ [⟨0x80000000#32 ||| (s.cause.zeroExtend 32 <<< 16), []⟩] })
    ∧ (∀ s t : State, step s = .next t → s.fault = true → t.fault = false →
        ∃ cfg rest, s.inbox = .reset cfg :: rest)

/-- R179: a command that raises writes `fault` and `cause` and nothing else; the ports move on. -/
def Obligations.FaultsArePrecise : Prop :=
  ∀ (s t : State) (w : Word) (rest : List PortInput), s.inbox = .command w :: rest →
    step s = .next t → s.fault = false → t.fault = true →
      t = { s with fault := true, cause := t.cause, inbox := rest, responses := t.responses }
        ∧ t.cause ∈ [0x10#8, 0x11#8, 0x20#8, 0x21#8]

/-- R178: the order of the checks for one command word, first match wins, and no fault where none matches. -/
def Obligations.ChecksOfACommandWordInOrder : Prop :=
  ∀ (s t : State) (w : Word) (rest : List PortInput), s.inbox = .command w :: rest → step s = .next t →
    (s.fault = true → t.fault = true ∧ t.cause = s.cause)
      ∧ (s.fault = false →
          (∀ e, decode w = .error e → t.fault = true ∧ t.cause = 0x10#8)
            ∧ (∀ i, decode w = .ok i → legalIn i s.inCall = false → t.fault = true ∧ t.cause = 0x11#8)
            ∧ (∀ i q, decode w = .ok (.pair i q) → s.inCall = true →
                (s.npairs.toNat = 2 ^ 31 - 1 → t.fault = true ∧ t.cause = 0x21#8)
                  ∧ (s.npairs.toNat ≠ 2 ^ 31 - 1 → (∀ g ∈ s.stages, g.need = 1) → s.outLen = s.cap →
                      t.fault = true ∧ t.cause = 0x20#8)
                  ∧ (s.npairs.toNat ≠ 2 ^ 31 - 1 → ¬ ((∀ g ∈ s.stages, g.need = 1) ∧ s.outLen = s.cap) →
                      t.fault = false ∧ t.cause = s.cause))
            ∧ (∀ i, decode w = .ok i → legalIn i s.inCall = true → (∀ a b, i ≠ .pair a b) →
                t.fault = false ∧ t.cause = s.cause))

/-- R174: the legality table: a command that is not legal in the phase raises PROTOCOL, a legal one is performed (only
PAIR may then raise, CALL_TOO_LONG or OUTPUT_CAPACITY), and a FAULTED block answers the error header. -/
def Obligations.LegalityTable : Prop :=
  ∀ (i : Instr) (s : State),
    (s.fault = false → legalIn i s.inCall = false →
        exec i s = .next
          { s with
            fault := true, cause := 0x11#8, inbox := s.inbox.tail
            responses := s.responses ++ [⟨0x80110000#32, []⟩] })
      ∧ (s.fault = false → legalIn i s.inCall = true →
          ∃ t, exec i s = .next t
            ∧ (t.fault = false
                ∨ (∃ a b, i = .pair a b) ∧ t.fault = true ∧ (t.cause = 0x20#8 ∨ t.cause = 0x21#8)))
      ∧ (s.fault = true →
          exec i s = .next
            { s with
              inbox := s.inbox.tail
              responses := s.responses ++ [⟨0x80000000#32 ||| (s.cause.zeroExtend 32 <<< 16), []⟩] })

/-- R173: an illegal word in IDLE or IN_CALL raises ILLEGAL_COMMAND and leaves the block FAULTED. -/
def Obligations.IllegalWordRaisesIllegalCommand : Prop :=
  ∀ (s : State) (w : Word) (rest : List PortInput) (e : Illegal), s.inbox = .command w :: rest →
    decode w = .error e → s.fault = false →
      step s = .next
        { s with
          fault := true, cause := 0x10#8, inbox := rest
          responses := s.responses ++ [⟨0x80100000#32, []⟩] }

/-! ## NOP, BEGIN, END (43_pipeline.md) -/

/-- R144: NOP answers OK and writes nothing, in a call or out of one; a FAULTED block answers it with the error
header. -/
def Obligations.NopAnswersOk : Prop :=
  ∀ s : State,
    (s.fault = false →
        exec .nop s = .next
          { s with inbox := s.inbox.tail, responses := s.responses ++ [⟨0x00000000#32, []⟩] })
      ∧ (s.fault = true →
          exec .nop s = .next
            { s with
              inbox := s.inbox.tail
              responses := s.responses ++ [⟨0x80000000#32 ||| (s.cause.zeroExtend 32 <<< 16), []⟩] })

/-- R136: BEGIN opens a call, and raises PROTOCOL if one is open. -/
def Obligations.BeginOpensACall : Prop :=
  ∀ (cap : BitVec 24) (s : State), s.fault = false →
    (s.inCall = false →
        exec (.beginCall cap) s = .next
          { s with
            sumI := 0x00000000#32, sumQ := 0x00000000#32, npairs := 0, outLen := 0, cap := cap, inCall := true
            inbox := s.inbox.tail, responses := s.responses ++ [⟨0x00000000#32, []⟩] })
      ∧ (s.inCall = true →
          exec (.beginCall cap) s = .next
            { s with
              fault := true, cause := 0x11#8, inbox := s.inbox.tail
              responses := s.responses ++ [⟨0x80110000#32, []⟩] })

/-- R143, R151: END of a call with pairs writes the means, the sums over the BYTE count `2 * npairs`, closes the call
and answers `out_len`; it raises PROTOCOL when no call is open. -/
def Obligations.EndWritesTheMeans : Prop :=
  ∀ s : State, s.fault = false →
    (s.inCall = true → s.npairs ≠ 0 →
        exec .endCall s = .next
          { s with
            meanI := fdiv s.sumI (u2f (2 * s.npairs.toNat)), meanQ := fdiv s.sumQ (u2f (2 * s.npairs.toNat))
            inCall := false
            inbox := s.inbox.tail, responses := s.responses ++ [⟨0x00000001#32, [s.outLen.zeroExtend 32]⟩] })
      ∧ (s.inCall = false →
          exec .endCall s = .next
            { s with
              fault := true, cause := 0x11#8, inbox := s.inbox.tail
              responses := s.responses ++ [⟨0x80110000#32, []⟩] })

/-- R152: END of a zero-length call writes some value into each mean, changes nothing else of the block, and answers
`out_len`. The values are free; the statement holds for every value (the draw counter is the model's, log 8). -/
def Obligations.EndOfAnEmptyCallLeavesTheMeansOpen : Prop :=
  ∀ s : State, s.fault = false → s.inCall = true → s.npairs = 0 →
    ∃ (mi mq : F32) (d : Nat),
      exec .endCall s = .next
        { s with
          meanI := mi, meanQ := mq, inCall := false, draws := d
          inbox := s.inbox.tail, responses := s.responses ++ [⟨0x00000001#32, [s.outLen.zeroExtend 32]⟩] }

/-! ## PAIR (43_pipeline.md, 41_frontend.md) -/

/-- R140, R141 with R110, R111, R114, R142: a PAIR that no check stops performs the whole body: clip, normalize,
accumulate, count, run the chain, and emit if the chain does. -/
def Obligations.PairPerformsTheBody : Prop :=
  ∀ (i q : Byte) (s : State), s.fault = false → s.inCall = true → s.npairs.toNat ≠ 2 ^ 31 - 1 →
    ¬ ((∀ g ∈ s.stages, g.need = 1) ∧ s.outLen = s.cap) →
      exec (.pair i q) s = .next
        { s with
          stages := (chain numerics s.stages ⟨normEntry i, normEntry q⟩).1
          ovl := s.ovl || decide (i = 0 ∨ i = 255 ∨ q = 0 ∨ q = 255)
          ovc := if i = 0 ∨ i = 255 ∨ q = 0 ∨ q = 255 then s.ovc + 1 else s.ovc
          sumI := fadd s.sumI (fabs (normEntry i))
          sumQ := fadd s.sumQ (fabs (normEntry q))
          npairs := s.npairs + 1
          outLen :=
            if (chain numerics s.stages ⟨normEntry i, normEntry q⟩).2 = none then s.outLen else s.outLen + 1
          inbox := s.inbox.tail
          responses := s.responses ++
            [match (chain numerics s.stages ⟨normEntry i, normEntry q⟩).2 with
              | none => ⟨0x00000000#32, []⟩
              | some y => ⟨0x00000002#32, [y.re, y.im]⟩] }

/-- R110: a pair clips iff either byte is 0 or 255; a clipping pair sets `ovl` and adds one to `ovc` modulo 2^32, any
other leaves both. -/
def Obligations.ClipSetsTheFlagAndCountsThePair : Prop :=
  ∀ (i q : Byte) (s t : State), exec (.pair i q) s = .next t → t.fault = false →
    (i = 0 ∨ i = 255 ∨ q = 0 ∨ q = 255 → t.ovl = true ∧ t.ovc.toNat = (s.ovc.toNat + 1) % 2 ^ 32)
      ∧ (¬ (i = 0 ∨ i = 255 ∨ q = 0 ∨ q = 255) → t.ovl = s.ovl ∧ t.ovc = s.ovc)

/-- R176: a PAIR that would emit while `out_len = cap` raises OUTPUT_CAPACITY before any state is changed. -/
def Obligations.PairIntoAFullBufferRaisesOutputCapacity : Prop :=
  ∀ (i q : Byte) (s : State), s.fault = false → s.inCall = true → s.npairs.toNat ≠ 2 ^ 31 - 1 →
    (∀ g ∈ s.stages, g.need = 1) → s.outLen = s.cap →
      exec (.pair i q) s = .next
        { s with
          fault := true, cause := 0x20#8, inbox := s.inbox.tail
          responses := s.responses ++ [⟨0x80200000#32, []⟩] }

/-- R177: a PAIR when `npairs = 2^31 - 1` raises CALL_TOO_LONG before any state is changed, whatever the capacity. -/
def Obligations.PairBeyondTheCountRaisesCallTooLong : Prop :=
  ∀ (i q : Byte) (s : State), s.fault = false → s.inCall = true → s.npairs.toNat = 2 ^ 31 - 1 →
    exec (.pair i q) s = .next
      { s with
        fault := true, cause := 0x21#8, inbox := s.inbox.tail
        responses := s.responses ++ [⟨0x80210000#32, []⟩] }

/-- R145, R141: a stage before which every stage is ready accepts exactly one sample, the one its predecessor computed;
a stage behind one that is not ready is not touched; and the emitted sample is what comes out of the last stage. -/
def Obligations.ChainIsAShortCircuit : Prop :=
  ∀ (nu : Numerics) (gs : List Stage) (x : C32), (∀ g ∈ gs, 1 ≤ g.need) →
    (chain nu gs x).1.length = gs.length
      ∧ (∀ (k : Nat) (g : Stage), gs[k]? = some g →
          ((∀ h ∈ gs.take k, h.need = 1) → (chain nu gs x).1[k]? = some (stgAdd g (sampleInto nu gs x k)).1)
            ∧ ((∃ h ∈ gs.take k, h.need ≠ 1) → (chain nu gs x).1[k]? = some g))
      ∧ (∀ y, (chain nu gs x).2 = some y → y = sampleInto nu gs x gs.length)

/-- R146: a PAIR emits iff `need[k] = 1` for every stage just before it; which pairs emit, the counters and the write
positions do not depend on the samples or on the arithmetic. -/
def Obligations.EmissionIsGatedByNeedAlone : Prop :=
  ∀ (nu nu' : Numerics) (gs : List Stage) (x x' : C32), (∀ g ∈ gs, 1 ≤ g.need) →
    ((chain nu gs x).2.isSome = true ↔ ∀ g ∈ gs, g.need = 1)
      ∧ (chain nu gs x).2.isSome = (chain nu' gs x').2.isSome
      ∧ (chain nu gs x).1.map (fun g => (g.cfg, g.wpos, g.need))
          = (chain nu' gs x').1.map (fun g => (g.cfg, g.wpos, g.need))

/-- R147 with R39(f), (g): after `a` accepted pairs the next one emits iff `TOTAL` divides `a + 1`, and every stage has
then accepted the count R39(g) gives. -/
def Obligations.EmissionSchedule : Prop :=
  ∀ (nu : Numerics) (gs : List Stage) (x : C32) (a : Nat), (∀ g ∈ gs, 1 ≤ g.period ∧ 1 ≤ g.size) →
    countedBy a gs = true →
      countedBy (a + 1) (chain nu gs x).1 = true
        ∧ ((chain nu gs x).2.isSome = true ↔ Cfg.total (gs.map (·.cfg)) ∣ a + 1)

/-- R101, R105: the lanes are independent: stages that agree in everything but the imaginary lanes, given samples that
agree in the real lane, go on agreeing and emit the same real lane. -/
def Obligations.RealLaneIgnoresTheImaginaryLane : Prop :=
  ∀ (nu : Numerics) (gs hs : List Stage) (x y : C32),
    gs.map (fun g => (g.cfg, g.wpos, g.need, g.ring.map C32.re))
        = hs.map (fun g => (g.cfg, g.wpos, g.need, g.ring.map C32.re)) → x.re = y.re →
      (chain nu gs x).1.map (fun g => (g.cfg, g.wpos, g.need, g.ring.map C32.re))
          = (chain nu hs y).1.map (fun g => (g.cfg, g.wpos, g.need, g.ring.map C32.re))
        ∧ (chain nu gs x).2.map C32.re = (chain nu hs y).2.map C32.re

/-- R101, R105, the other direction: stages that agree in everything but the real lanes, given samples that agree in the
imaginary lane, go on agreeing and emit the same imaginary lane. -/
def Obligations.ImaginaryLaneIgnoresTheRealLane : Prop :=
  ∀ (nu : Numerics) (gs hs : List Stage) (x y : C32),
    gs.map (fun g => (g.cfg, g.wpos, g.need, g.ring.map C32.im))
        = hs.map (fun g => (g.cfg, g.wpos, g.need, g.ring.map C32.im)) → x.im = y.im →
      (chain nu gs x).1.map (fun g => (g.cfg, g.wpos, g.need, g.ring.map C32.im))
          = (chain nu hs y).1.map (fun g => (g.cfg, g.wpos, g.need, g.ring.map C32.im))
        ∧ (chain nu gs x).2.map C32.im = (chain nu hs y).2.map C32.im

/-! ## The FIR stage (42_stage.md) -/

/-- R121 with R106(b): STG.ADD stores at the old write position, advances it modulo `N[k]`, counts down with reload,
and is ready iff `need[k] = 1` before it (R123). -/
def Obligations.StageAddStoresAdvancesAndCounts : Prop :=
  ∀ (g : Stage) (x : C32), g.Wf →
    stgAdd g x =
      ({ cfg := g.cfg
         ring := g.ring.set g.wpos x
         wpos := (g.wpos + 1) % g.cfg.taps.length
         need := if g.need = 1 then g.cfg.factor else g.need - 1 }, decide (g.need = 1))

/-- R123, R124: after `A` accepted samples since reset, `wpos = A mod N` and `need = M - (A mod M)`, and the next sample
is ready iff `M` divides its number. -/
def Obligations.StageCountersAfterManySamples : Prop :=
  ∀ (c : StageCfg) (xs : List C32) (x : C32), 1 ≤ c.factor → 1 ≤ c.taps.length →
    ((Stage.fresh c).acceptAll xs).wpos = xs.length % c.taps.length
      ∧ ((Stage.fresh c).acceptAll xs).need = c.factor - xs.length % c.factor
      ∧ ((stgAdd ((Stage.fresh c).acceptAll xs) x).2 = true ↔ c.factor ∣ xs.length + 1)

/-- R122: STG.ADD overwrites the oldest sample: the window loses its first element and gains the new sample last. -/
def Obligations.WindowSlidesByOne : Prop :=
  ∀ (g : Stage) (x : C32), g.Wf → (stgAdd g x).1.window = g.window.tail ++ [x]

/-- R126, R104, R128: STG.CALC is the sum over the taps, in order from `(+0.0, +0.0)`, of tap times window element,
every product and every partial sum rounded by itself; tap 0 meets the slot at the write position. -/
def Obligations.CalcIsTheInnerProductOfTheWindow : Prop :=
  ∀ (nu : Numerics) (g : Stage),
    stgCalc nu g =
      (g.cfg.taps.zip g.window).foldl
        (fun (acc : C32) p => ⟨nu.fadd acc.re (nu.fmul p.1 p.2.re), nu.fadd acc.im (nu.fmul p.1 p.2.im)⟩)
        ⟨0x00000000#32, 0x00000000#32⟩

/-- R129: after the samples `xs` since reset, the window is the last `N` of them, padded in front with reset zeros; so
STG.CALC returns the in-order sum of `COEF[t] * x[A - N + 1 + t]`. -/
def Obligations.ClosedFormOfAStage : Prop :=
  ∀ (nu : Numerics) (c : StageCfg) (xs : List C32), 1 ≤ c.factor → 1 ≤ c.taps.length →
    ((Stage.fresh c).acceptAll xs).window
        = (List.replicate c.taps.length (⟨0x00000000#32, 0x00000000#32⟩ : C32) ++ xs).drop xs.length
      ∧ stgCalc nu ((Stage.fresh c).acceptAll xs) =
          (c.taps.zip
            ((List.replicate c.taps.length (⟨0x00000000#32, 0x00000000#32⟩ : C32) ++ xs).drop xs.length)).foldl
            (fun (acc : C32) p => ⟨nu.fadd acc.re (nu.fmul p.1 p.2.re), nu.fadd acc.im (nu.fmul p.1 p.2.im)⟩)
            ⟨0x00000000#32, 0x00000000#32⟩

/-- R131: the identity stage, `M = 1` and `COEF = [1.0]`, is always ready and returns every sample bit for bit, but that
a `-0.0` lane comes out as `+0.0` (for samples that are not a NaN in a lane). -/
def Obligations.IdentityStageReturnsItsSample : Prop :=
  ∀ (g : Stage) (x : C32), g.Wf → g.cfg = ⟨1, [0x3F800000#32]⟩ →
    F32.isNan x.re = false → F32.isNan x.im = false →
      (stgAdd g x).2 = true
        ∧ stgCalc numerics (stgAdd g x).1 =
            ⟨if x.re = 0x80000000#32 then 0x00000000#32 else x.re,
             if x.im = 0x80000000#32 then 0x00000000#32 else x.im⟩

/-- From R93, R94, R98 and R104, as R100 derives it: STG.CALC never returns `-0.0` in a lane. R100 excepts the case that
a NaN or an infinity is involved; here it is taken in: with a NaN by R98 (a quiet NaN is not `-0.0`), with an infinity by
R93 and R94, but that the sum of two infinities of one sign is that infinity is the model's choice, PRESUMED (log 7). -/
def Obligations.CalcNeverReturnsNegativeZero : Prop :=
  ∀ g : Stage, (stgCalc numerics g).re ≠ 0x80000000#32 ∧ (stgCalc numerics g).im ≠ 0x80000000#32

/-! ## Numerics (40_numerics.md, 41_frontend.md) -/

/-- R92: the magnitude bits of `RN32` of `n / d` units of 2^-149: from `2^128 - 2^103` on the infinity; below it a finite
pattern no finite pattern is nearer than, the even one where another is as near. -/
def Obligations.RoundingIsToNearestEven : Prop :=
  ∀ n d : Nat, 0 < d →
    ((2 ^ 277 - 2 ^ 252) * d ≤ n → roundMag n d = 255 * 2 ^ 23)
      ∧ (n < (2 ^ 277 - 2 ^ 252) * d →
          roundMag n d < 255 * 2 ^ 23
            ∧ ∀ m : Nat, m < 255 * 2 ^ 23 →
                ((F32.units (BitVec.ofNat 32 (roundMag n d)) * d : Int) - n).natAbs
                    ≤ ((F32.units (BitVec.ofNat 32 m) * d : Int) - n).natAbs
                  ∧ (((F32.units (BitVec.ofNat 32 (roundMag n d)) * d : Int) - n).natAbs
                        = ((F32.units (BitVec.ofNat 32 m) * d : Int) - n).natAbs →
                      m ≠ roundMag n d → roundMag n d % 2 = 0))

/-- R93: `fadd` is commutative, wherever its result is not a NaN (which NaN is open, R98). -/
def Obligations.AdditionCommutes : Prop :=
  ∀ a b : F32, F32.isNan (fadd a b) = false → fadd a b = fadd b a

/-- R98 with R93, R94, R95: where an operation must return a NaN it returns a quiet NaN: a NaN operand, infinities of
opposite sign in an addition, zero times infinity, zero divided by zero, infinity divided by infinity. Which NaN is open.
That a NaN operand of `fdiv` gives a NaN is the model's choice, PRESUMED (log 7): R95 does not write it out. -/
def Obligations.ForcedNansAreQuiet : Prop :=
  ∀ a b : F32,
    (F32.isNan a = true ∨ F32.isNan b = true →
        F32.isQuietNan (fadd a b) = true ∧ F32.isQuietNan (fmul a b) = true ∧ F32.isQuietNan (fdiv a b) = true)
      ∧ (F32.isInf a = true → F32.isInf b = true → F32.neg a ≠ F32.neg b → F32.isQuietNan (fadd a b) = true)
      ∧ (F32.isInf a = true → F32.isZero b = true →
          F32.isQuietNan (fmul a b) = true ∧ F32.isQuietNan (fmul b a) = true)
      ∧ (F32.isZero a = true → F32.isZero b = true → F32.isQuietNan (fdiv a b) = true)
      ∧ (F32.isInf a = true → F32.isInf b = true → F32.isQuietNan (fdiv a b) = true)

/-- R97: `u2f` is exact for every integer below 2^32 with at most 24 significant bits. -/
def Obligations.ConversionIsExactOnTwentyFourBits : Prop :=
  ∀ m k : Nat, m ≤ 2 ^ 24 → m * 2 ^ k < 2 ^ 32 →
    F32.isFinite (u2f (m * 2 ^ k)) = true ∧ F32.value (u2f (m * 2 ^ k)) = (m * 2 ^ k * 2 ^ 149 : Int)

/-- R111: every entry of the normalizer table is `RN32((2v - 255)/255)`. -/
def Obligations.NormTableIsTheRoundedFormula : Prop :=
  ∀ v : Byte, normEntry v =
    rn32 (decide (2 * v.toNat < 255)) ((2 * (v.toNat : Int) - 255).natAbs * 2 ^ 149) 255

/-- R113(a) to (e): end points, odd symmetry, strictly increasing, never zero, subnormal, infinite or NaN, and the
sign. -/
def Obligations.NormTableProperties : Prop :=
  normEntry 0 = 0xBF800000#32 ∧ normEntry 255 = 0x3F800000#32
    ∧ ∀ v : Byte, normEntry (255 - v) = normEntry v ^^^ 0x80000000#32
        ∧ 1 ≤ F32.exp (normEntry v) ∧ F32.exp (normEntry v) ≤ 127
        ∧ (F32.neg (normEntry v) = true ↔ v.toNat ≤ 127)
        ∧ (v.toNat < 255 → F32.value (normEntry v) < F32.value (normEntry (v + 1)))

/-! ## Accessors (44_accessors.md) -/

/-- R160: RDTOT answers `TOTAL` and writes nothing; PROTOCOL in a call. -/
def Obligations.RdtotAnswersTheProduct : Prop :=
  ∀ s : State, s.fault = false →
    (s.inCall = false →
        exec .rdtot s = .next
          { s with
            inbox := s.inbox.tail
            responses := s.responses ++
              [⟨0x00000001#32, [BitVec.ofNat 32 (s.stages.map (fun g => g.cfg.factor)).prod]⟩] })
      ∧ (s.inCall = true →
          exec .rdtot s = .next
            { s with
              fault := true, cause := 0x11#8, inbox := s.inbox.tail
              responses := s.responses ++ [⟨0x80110000#32, []⟩] })

/-- R161: RDMI answers the pattern of `mean_i` and writes nothing; PROTOCOL in a call. -/
def Obligations.RdmiAnswersTheMean : Prop :=
  ∀ s : State, s.fault = false →
    (s.inCall = false →
        exec .rdmi s = .next
          { s with inbox := s.inbox.tail, responses := s.responses ++ [⟨0x00000001#32, [s.meanI]⟩] })
      ∧ (s.inCall = true →
          exec .rdmi s = .next
            { s with
              fault := true, cause := 0x11#8, inbox := s.inbox.tail
              responses := s.responses ++ [⟨0x80110000#32, []⟩] })

/-- R162: RDMQ answers the pattern of `mean_q` and writes nothing; PROTOCOL in a call. -/
def Obligations.RdmqAnswersTheMean : Prop :=
  ∀ s : State, s.fault = false →
    (s.inCall = false →
        exec .rdmq s = .next
          { s with inbox := s.inbox.tail, responses := s.responses ++ [⟨0x00000001#32, [s.meanQ]⟩] })
      ∧ (s.inCall = true →
          exec .rdmq s = .next
            { s with
              fault := true, cause := 0x11#8, inbox := s.inbox.tail
              responses := s.responses ++ [⟨0x80110000#32, []⟩] })

/-- R163: RDOVL answers the flag as it was and clears it; it does not touch `ovc`; PROTOCOL in a call. -/
def Obligations.RdovlReadsAndClears : Prop :=
  ∀ s : State, s.fault = false →
    (s.inCall = false →
        exec .rdovl s = .next
          { s with
            ovl := false, inbox := s.inbox.tail
            responses := s.responses ++ [⟨0x00000001#32, [if s.ovl then 0x00000001#32 else 0x00000000#32]⟩] })
      ∧ (s.inCall = true →
          exec .rdovl s = .next
            { s with
              fault := true, cause := 0x11#8, inbox := s.inbox.tail
              responses := s.responses ++ [⟨0x80110000#32, []⟩] })

/-- R164: RDOVC answers the count as it was and zeroes it; it does not touch `ovl`; PROTOCOL in a call. -/
def Obligations.RdovcReadsAndResets : Prop :=
  ∀ s : State, s.fault = false →
    (s.inCall = false →
        exec .rdovc s = .next
          { s with
            ovc := 0, inbox := s.inbox.tail, responses := s.responses ++ [⟨0x00000001#32, [s.ovc]⟩] })
      ∧ (s.inCall = true →
          exec .rdovc s = .next
            { s with
              fault := true, cause := 0x11#8, inbox := s.inbox.tail
              responses := s.responses ++ [⟨0x80110000#32, []⟩] })

/-! ## Frames: what no other command writes (10_state.md) -/

/-- R21 to R23, R26 to R29, R31 to R33, R37: every register is written only by the commands its rule names: the stages
by PAIR, `ovl` by PAIR and RDOVL, `ovc` by PAIR and RDOVC, the sums, `npairs` and `out_len` by BEGIN and PAIR, the means
(and the model's draw counter) by END, `cap` by BEGIN, `in_call` by BEGIN and END. -/
def Obligations.RegistersAreWrittenOnlyByTheirCommands : Prop :=
  ∀ (i : Instr) (s t : State), exec i s = .next t →
    ((∀ a b, i ≠ .pair a b) → t.stages = s.stages)
      ∧ ((∀ a b, i ≠ .pair a b) → i ≠ .rdovl → t.ovl = s.ovl)
      ∧ ((∀ a b, i ≠ .pair a b) → i ≠ .rdovc → t.ovc = s.ovc)
      ∧ ((∀ a b, i ≠ .pair a b) → (∀ c, i ≠ .beginCall c) →
          t.sumI = s.sumI ∧ t.sumQ = s.sumQ ∧ t.npairs = s.npairs ∧ t.outLen = s.outLen)
      ∧ (i ≠ .endCall → t.meanI = s.meanI ∧ t.meanQ = s.meanQ ∧ t.draws = s.draws)
      ∧ ((∀ c, i ≠ .beginCall c) → t.cap = s.cap)
      ∧ ((∀ c, i ≠ .beginCall c) → i ≠ .endCall → t.inCall = s.inCall)

/-- R58, R121, R26: the frame of PAIR: in every stage the constants, the number of slots and every slot but the one at
the write position stay; the means, `cap` and `in_call` stay; the flag is never cleared. -/
def Obligations.PairFrame : Prop :=
  ∀ (i q : Byte) (s t : State), exec (.pair i q) s = .next t →
    t.stages.length = s.stages.length
      ∧ (∀ (k : Nat) (g : Stage), s.stages[k]? = some g →
          ∃ g' : Stage, t.stages[k]? = some g' ∧ g'.cfg = g.cfg ∧ g'.ring.length = g.ring.length
            ∧ ∀ j, j ≠ g.wpos → g'.ring[j]? = g.ring[j]?)
      ∧ t.meanI = s.meanI ∧ t.meanQ = s.meanQ ∧ t.cap = s.cap ∧ t.inCall = s.inCall ∧ t.draws = s.draws
      ∧ (s.ovl = true → t.ovl = true)

/-- R5, R53, R160: no step but a reset event changes the configuration, so `TOTAL` never changes. -/
def Obligations.ConfigurationIsNeverWritten : Prop :=
  ∀ s t : State, step s = .next t →
    (t.cfg = s.cfg ∧ t.total = s.total) ∨ ∃ cfg rest, s.inbox = .reset cfg :: rest ∧ t.cfg = cfg

/-! ## Reset (70_reset_and_hazards.md) -/

/-- R42, R201: a reset event with a valid configuration, in any phase, leaves every element of the block at its reset
value. (Of the model's own fields, the ports and the draw counter, it says nothing: log 8, 13.) -/
def Obligations.ResetConstructsEveryElement : Prop :=
  ∀ (s : State) (cfg : Cfg) (rest : List PortInput), s.inbox = .reset cfg :: rest → Cfg.valid cfg = true →
    ∃ t, step s = .next t
      ∧ t =
        { stages := cfg.map fun c =>
            { cfg := c
              ring := List.replicate c.taps.length ⟨0x00000000#32, 0x00000000#32⟩
              wpos := 0
              need := c.factor }
          ovl := false, ovc := 0
          meanI := 0x00000000#32, meanQ := 0x00000000#32, sumI := 0x00000000#32, sumQ := 0x00000000#32
          npairs := 0, outLen := 0, cap := 0, inCall := false, fault := false, cause := 0x00#8
          draws := t.draws, inbox := t.inbox, responses := t.responses }

/-- R172: the checks of a configuration in their order; a reset event with an invalid one leaves the block FAULTED with
the cause of the first check that fails, and every invalid configuration fails one. -/
def Obligations.InvalidConfigurationIsRejectedAtReset : Prop :=
  ∀ (s : State) (cfg : Cfg) (rest : List PortInput), s.inbox = .reset cfg :: rest →
    (Cfg.valid cfg = false → ∃ t, step s = .next t ∧ t.fault = true
        ∧ t.cause ∈ [0x01#8, 0x02#8, 0x03#8, 0x04#8])
      ∧ (cfg = [] → ∃ t, step s = .next t ∧ t.fault = true ∧ t.cause = 0x03#8)
      ∧ (∀ pre c post, cfg = pre ++ c :: post → (∀ d ∈ pre, d.factor ≠ 0 ∧ d.taps ≠ []) →
          (c.factor = 0 → ∃ t, step s = .next t ∧ t.fault = true ∧ t.cause = 0x01#8)
            ∧ (c.factor ≠ 0 → c.taps = [] → ∃ t, step s = .next t ∧ t.fault = true ∧ t.cause = 0x02#8))
      ∧ (cfg ≠ [] → (∀ d ∈ cfg, d.factor ≠ 0 ∧ d.taps ≠ []) →
          ((∃ d ∈ cfg, d.factor > 2 ^ 32 - 1 ∨ d.taps.length > 2 ^ 32 - 1) ∨ Cfg.total cfg > 2 ^ 32 - 1) →
          ∃ t, step s = .next t ∧ t.fault = true ∧ t.cause = 0x04#8)

/-- The machine at reset meets the invariants, no pair counted yet. The configuration behind `State.reset` is the
model's choice (log 4). -/
def Obligations.InvariantsHoldAtReset : Prop :=
  State.reset.validCfg ∧ State.reset.Inv ∧ countedBy 0 State.reset.stages = true
    ∧ State.reset.phase = .idle ∧ State.reset.total = 15

/-! ## Invariants (10_state.md R39, 40_numerics.md R107) -/

/-- R39(a) to (e): every step, reset events with any configuration included, keeps the shape of the state. -/
def Obligations.ShapeIsKeptByEveryStep : Prop :=
  ∀ s t : State, s.Inv → step s = .next t → t.Inv

/-- R39(f), (g): every step but a reset event with an invalid configuration keeps the counting laws: a PAIR that does not
fault counts one more, a reset event with a valid configuration starts again at 0, and no other input moves a counter: no
other command, no faulting PAIR, no illegal word, no empty port. A reset event with an invalid configuration is in no
clause: it leaves the counters unspecified (R42). -/
def Obligations.CountingLawsAreKeptByEveryStep : Prop :=
  ∀ (s t : State) (a : Nat), s.Inv → s.validCfg → countedBy a s.stages = true → step s = .next t →
    (∀ w rest i q, s.inbox = .command w :: rest → decode w = .ok (.pair i q) → t.fault = false →
        countedBy (a + 1) t.stages = true)
      ∧ (∀ cfg rest, s.inbox = .reset cfg :: rest → Cfg.valid cfg = true → countedBy 0 t.stages = true)
      ∧ ((∀ cfg rest, s.inbox ≠ .reset cfg :: rest) →
          (∀ w rest i q, s.inbox = .command w :: rest → decode w = .ok (.pair i q) → t.fault = true) →
          countedBy a t.stages = true)

/-- R107(c), R114(c): while the block is not FAULTED, the running sums are finite, not negative, at most `npairs` and at
most `2^24`; every step keeps this. -/
def Obligations.RunningSumsStayBounded : Prop :=
  ∀ s t : State,
    (s.fault = false → sumBounded s.npairs.toNat s.sumI ∧ sumBounded s.npairs.toNat s.sumQ) →
      step s = .next t →
        t.fault = false → sumBounded t.npairs.toNat t.sumI ∧ sumBounded t.npairs.toNat t.sumQ

/-! ## Calls (43_pipeline.md R147 to R150) -/

/-- R148: cutting a stream of pairs into two calls changes neither the delay lines, write positions and countdowns, nor
the overload flag and count, nor the emitted samples, if neither way faults. -/
def Obligations.CrossCallContinuity : Prop :=
  ∀ (s t u : State) (xs ys : List (Byte × Byte)) (cap : BitVec 24),
    runCommands (xs.map (fun p => .pair p.1 p.2) ++ [.endCall, .beginCall cap] ++ ys.map (fun p => .pair p.1 p.2)) s
        = t →
    runCommands ((xs ++ ys).map (fun p => .pair p.1 p.2)) s = u →
    t.fault = false → u.fault = false →
      t.stages = u.stages ∧ t.ovl = u.ovl ∧ t.ovc = u.ovc
        ∧ emissions (t.responses.drop s.responses.length) = emissions (u.responses.drop s.responses.length)

/-- R175: DECIMATE with an odd length returns MALFORMED_LENGTH, issues no command and leaves the state as it was. -/
def Obligations.OddLengthIsRefusedByTheDriver : Prop :=
  ∀ (cap : BitVec 24) (bytes : List Byte) (s : State), bytes.length % 2 = 1 →
    decimate cap bytes s = (s, .malformedLength)

/-- R149, R150: a DECIMATE of `n` pairs started in IDLE after `p` pairs since reset emits
`floor((p + n)/TOTAL) - floor(p/TOTAL)` samples and returns that number as `output_len`, if the capacity allows it. -/
def Obligations.DecimateEmitsTheScheduledSamples : Prop :=
  ∀ (cap : BitVec 24) (bytes : List Byte) (s : State) (p n : Nat), s.Inv → s.validCfg →
    s.phase = .idle → countedBy p s.stages = true → bytes.length = 2 * n → n ≤ 2 ^ 31 - 1 →
    emissionCount s.cfg p n ≤ cap.toNat →
      ∃ t out, decimate cap bytes s = (t, .done out (BitVec.ofNat 32 (emissionCount s.cfg p n)))
        ∧ out.length = emissionCount s.cfg p n
        ∧ t.phase = .idle ∧ countedBy (p + n) t.stages = true

/-- R176, R149: a DECIMATE whose emissions exceed the capacity ends in OUTPUT_CAPACITY. -/
def Obligations.DecimateBeyondTheCapacityFaults : Prop :=
  ∀ (cap : BitVec 24) (bytes : List Byte) (s : State) (p n : Nat), s.Inv → s.validCfg →
    s.phase = .idle → countedBy p s.stages = true → bytes.length = 2 * n → n ≤ 2 ^ 31 - 1 →
    cap.toNat < emissionCount s.cfg p n →
      ∃ t, decimate cap bytes s = (t, .fault 0x20#8) ∧ t.phase = .faulted
end

