-- ==== Sys2Proof/Laws/State.lean ====
section
/-!
SUPPORT. One lemma per field of State and named update: what the update leaves there. Later proofs rewrite with these
and unfold no record update.
-/

namespace Sys2Proof.Machine

variable (s : State)

@[simp] theorem State.respond_stages (r : Response) : (s.respond r).stages = s.stages := rfl
@[simp] theorem State.respond_ovl (r : Response) : (s.respond r).ovl = s.ovl := rfl
@[simp] theorem State.respond_ovc (r : Response) : (s.respond r).ovc = s.ovc := rfl
@[simp] theorem State.respond_sumI (r : Response) : (s.respond r).sumI = s.sumI := rfl
@[simp] theorem State.respond_sumQ (r : Response) : (s.respond r).sumQ = s.sumQ := rfl
@[simp] theorem State.respond_meanI (r : Response) : (s.respond r).meanI = s.meanI := rfl
@[simp] theorem State.respond_meanQ (r : Response) : (s.respond r).meanQ = s.meanQ := rfl
@[simp] theorem State.respond_npairs (r : Response) : (s.respond r).npairs = s.npairs := rfl
@[simp] theorem State.respond_outLen (r : Response) : (s.respond r).outLen = s.outLen := rfl
@[simp] theorem State.respond_cap (r : Response) : (s.respond r).cap = s.cap := rfl
@[simp] theorem State.respond_inCall (r : Response) : (s.respond r).inCall = s.inCall := rfl
@[simp] theorem State.respond_fault (r : Response) : (s.respond r).fault = s.fault := rfl
@[simp] theorem State.respond_cause (r : Response) : (s.respond r).cause = s.cause := rfl
@[simp] theorem State.respond_draws (r : Response) : (s.respond r).draws = s.draws := rfl
@[simp] theorem State.respond_inbox (r : Response) : (s.respond r).inbox = s.inbox.tail := rfl
@[simp] theorem State.respond_responses (r : Response) : (s.respond r).responses = s.responses ++ [r] := rfl

@[simp] theorem State.answer_stages (p : List Word) : (s.answer p).stages = s.stages := rfl
@[simp] theorem State.answer_ovl (p : List Word) : (s.answer p).ovl = s.ovl := rfl
@[simp] theorem State.answer_ovc (p : List Word) : (s.answer p).ovc = s.ovc := rfl
@[simp] theorem State.answer_sumI (p : List Word) : (s.answer p).sumI = s.sumI := rfl
@[simp] theorem State.answer_sumQ (p : List Word) : (s.answer p).sumQ = s.sumQ := rfl
@[simp] theorem State.answer_meanI (p : List Word) : (s.answer p).meanI = s.meanI := rfl
@[simp] theorem State.answer_meanQ (p : List Word) : (s.answer p).meanQ = s.meanQ := rfl
@[simp] theorem State.answer_npairs (p : List Word) : (s.answer p).npairs = s.npairs := rfl
@[simp] theorem State.answer_outLen (p : List Word) : (s.answer p).outLen = s.outLen := rfl
@[simp] theorem State.answer_cap (p : List Word) : (s.answer p).cap = s.cap := rfl
@[simp] theorem State.answer_inCall (p : List Word) : (s.answer p).inCall = s.inCall := rfl
@[simp] theorem State.answer_fault (p : List Word) : (s.answer p).fault = s.fault := rfl
@[simp] theorem State.answer_cause (p : List Word) : (s.answer p).cause = s.cause := rfl
@[simp] theorem State.answer_draws (p : List Word) : (s.answer p).draws = s.draws := rfl
@[simp] theorem State.answer_inbox (p : List Word) : (s.answer p).inbox = s.inbox.tail := rfl
@[simp] theorem State.answer_responses (p : List Word) :
    (s.answer p).responses = s.responses ++ [okResponse p] := rfl

@[simp] theorem State.answerFaulted_stages : (s.answerFaulted).stages = s.stages := rfl
@[simp] theorem State.answerFaulted_ovl : (s.answerFaulted).ovl = s.ovl := rfl
@[simp] theorem State.answerFaulted_ovc : (s.answerFaulted).ovc = s.ovc := rfl
@[simp] theorem State.answerFaulted_sumI : (s.answerFaulted).sumI = s.sumI := rfl
@[simp] theorem State.answerFaulted_sumQ : (s.answerFaulted).sumQ = s.sumQ := rfl
@[simp] theorem State.answerFaulted_meanI : (s.answerFaulted).meanI = s.meanI := rfl
@[simp] theorem State.answerFaulted_meanQ : (s.answerFaulted).meanQ = s.meanQ := rfl
@[simp] theorem State.answerFaulted_npairs : (s.answerFaulted).npairs = s.npairs := rfl
@[simp] theorem State.answerFaulted_outLen : (s.answerFaulted).outLen = s.outLen := rfl
@[simp] theorem State.answerFaulted_cap : (s.answerFaulted).cap = s.cap := rfl
@[simp] theorem State.answerFaulted_inCall : (s.answerFaulted).inCall = s.inCall := rfl
@[simp] theorem State.answerFaulted_fault : (s.answerFaulted).fault = s.fault := rfl
@[simp] theorem State.answerFaulted_cause : (s.answerFaulted).cause = s.cause := rfl
@[simp] theorem State.answerFaulted_draws : (s.answerFaulted).draws = s.draws := rfl
@[simp] theorem State.answerFaulted_inbox : (s.answerFaulted).inbox = s.inbox.tail := rfl
@[simp] theorem State.answerFaulted_responses :
    (s.answerFaulted).responses = s.responses ++ [errorResponse s.cause] := rfl

@[simp] theorem State.raise_stages (c : Cause) : (s.raise c).stages = s.stages := rfl
@[simp] theorem State.raise_ovl (c : Cause) : (s.raise c).ovl = s.ovl := rfl
@[simp] theorem State.raise_ovc (c : Cause) : (s.raise c).ovc = s.ovc := rfl
@[simp] theorem State.raise_sumI (c : Cause) : (s.raise c).sumI = s.sumI := rfl
@[simp] theorem State.raise_sumQ (c : Cause) : (s.raise c).sumQ = s.sumQ := rfl
@[simp] theorem State.raise_meanI (c : Cause) : (s.raise c).meanI = s.meanI := rfl
@[simp] theorem State.raise_meanQ (c : Cause) : (s.raise c).meanQ = s.meanQ := rfl
@[simp] theorem State.raise_npairs (c : Cause) : (s.raise c).npairs = s.npairs := rfl
@[simp] theorem State.raise_outLen (c : Cause) : (s.raise c).outLen = s.outLen := rfl
@[simp] theorem State.raise_cap (c : Cause) : (s.raise c).cap = s.cap := rfl
@[simp] theorem State.raise_inCall (c : Cause) : (s.raise c).inCall = s.inCall := rfl
@[simp] theorem State.raise_fault (c : Cause) : (s.raise c).fault = true := rfl
@[simp] theorem State.raise_cause (c : Cause) : (s.raise c).cause = c.code := rfl
@[simp] theorem State.raise_draws (c : Cause) : (s.raise c).draws = s.draws := rfl
@[simp] theorem State.raise_inbox (c : Cause) : (s.raise c).inbox = s.inbox.tail := rfl
@[simp] theorem State.raise_responses (c : Cause) :
    (s.raise c).responses = s.responses ++ [errorResponse c.code] := rfl

@[simp] theorem State.clip_stages (i q : Byte) : (s.clip i q).stages = s.stages := by
  unfold State.clip; split <;> simp_all
@[simp] theorem State.clip_ovl (i q : Byte) : (s.clip i q).ovl = (s.ovl || clips i q) := by
  unfold State.clip; split <;> simp_all
@[simp] theorem State.clip_ovc (i q : Byte) :
    (s.clip i q).ovc = (if clips i q then s.ovc + 1#32 else s.ovc) := by
  unfold State.clip; split <;> simp_all
@[simp] theorem State.clip_sumI (i q : Byte) : (s.clip i q).sumI = s.sumI := by
  unfold State.clip; split <;> simp_all
@[simp] theorem State.clip_sumQ (i q : Byte) : (s.clip i q).sumQ = s.sumQ := by
  unfold State.clip; split <;> simp_all
@[simp] theorem State.clip_meanI (i q : Byte) : (s.clip i q).meanI = s.meanI := by
  unfold State.clip; split <;> simp_all
@[simp] theorem State.clip_meanQ (i q : Byte) : (s.clip i q).meanQ = s.meanQ := by
  unfold State.clip; split <;> simp_all
@[simp] theorem State.clip_npairs (i q : Byte) : (s.clip i q).npairs = s.npairs := by
  unfold State.clip; split <;> simp_all
@[simp] theorem State.clip_outLen (i q : Byte) : (s.clip i q).outLen = s.outLen := by
  unfold State.clip; split <;> simp_all
@[simp] theorem State.clip_cap (i q : Byte) : (s.clip i q).cap = s.cap := by
  unfold State.clip; split <;> simp_all
@[simp] theorem State.clip_inCall (i q : Byte) : (s.clip i q).inCall = s.inCall := by
  unfold State.clip; split <;> simp_all
@[simp] theorem State.clip_fault (i q : Byte) : (s.clip i q).fault = s.fault := by
  unfold State.clip; split <;> simp_all
@[simp] theorem State.clip_cause (i q : Byte) : (s.clip i q).cause = s.cause := by
  unfold State.clip; split <;> simp_all
@[simp] theorem State.clip_draws (i q : Byte) : (s.clip i q).draws = s.draws := by
  unfold State.clip; split <;> simp_all
@[simp] theorem State.clip_inbox (i q : Byte) : (s.clip i q).inbox = s.inbox := by
  unfold State.clip; split <;> simp_all
@[simp] theorem State.clip_responses (i q : Byte) : (s.clip i q).responses = s.responses := by
  unfold State.clip; split <;> simp_all

@[simp] theorem State.absacc_stages (nu : Numerics) (x : C32) : (s.absacc nu x).stages = s.stages := rfl
@[simp] theorem State.absacc_ovl (nu : Numerics) (x : C32) : (s.absacc nu x).ovl = s.ovl := rfl
@[simp] theorem State.absacc_ovc (nu : Numerics) (x : C32) : (s.absacc nu x).ovc = s.ovc := rfl
@[simp] theorem State.absacc_sumI (nu : Numerics) (x : C32) :
    (s.absacc nu x).sumI = nu.fadd s.sumI (nu.fabs x.re) := rfl
@[simp] theorem State.absacc_sumQ (nu : Numerics) (x : C32) :
    (s.absacc nu x).sumQ = nu.fadd s.sumQ (nu.fabs x.im) := rfl
@[simp] theorem State.absacc_meanI (nu : Numerics) (x : C32) : (s.absacc nu x).meanI = s.meanI := rfl
@[simp] theorem State.absacc_meanQ (nu : Numerics) (x : C32) : (s.absacc nu x).meanQ = s.meanQ := rfl
@[simp] theorem State.absacc_npairs (nu : Numerics) (x : C32) : (s.absacc nu x).npairs = s.npairs := rfl
@[simp] theorem State.absacc_outLen (nu : Numerics) (x : C32) : (s.absacc nu x).outLen = s.outLen := rfl
@[simp] theorem State.absacc_cap (nu : Numerics) (x : C32) : (s.absacc nu x).cap = s.cap := rfl
@[simp] theorem State.absacc_inCall (nu : Numerics) (x : C32) : (s.absacc nu x).inCall = s.inCall := rfl
@[simp] theorem State.absacc_fault (nu : Numerics) (x : C32) : (s.absacc nu x).fault = s.fault := rfl
@[simp] theorem State.absacc_cause (nu : Numerics) (x : C32) : (s.absacc nu x).cause = s.cause := rfl
@[simp] theorem State.absacc_draws (nu : Numerics) (x : C32) : (s.absacc nu x).draws = s.draws := rfl
@[simp] theorem State.absacc_inbox (nu : Numerics) (x : C32) : (s.absacc nu x).inbox = s.inbox := rfl
@[simp] theorem State.absacc_responses (nu : Numerics) (x : C32) : (s.absacc nu x).responses = s.responses := rfl

@[simp] theorem State.frontEnd_stages (nu : Numerics) (i q : Byte) : (s.frontEnd nu i q).stages = s.stages := by
  simp [State.frontEnd, normalize]
@[simp] theorem State.frontEnd_ovl (nu : Numerics) (i q : Byte) :
    (s.frontEnd nu i q).ovl = (s.ovl || clips i q) := by
  simp [State.frontEnd, normalize]
@[simp] theorem State.frontEnd_ovc (nu : Numerics) (i q : Byte) :
    (s.frontEnd nu i q).ovc = (if clips i q then s.ovc + 1#32 else s.ovc) := by
  simp [State.frontEnd, normalize]
@[simp] theorem State.frontEnd_sumI (nu : Numerics) (i q : Byte) :
    (s.frontEnd nu i q).sumI = nu.fadd s.sumI (nu.fabs (nu.norm i)) := by
  simp [State.frontEnd, normalize]
@[simp] theorem State.frontEnd_sumQ (nu : Numerics) (i q : Byte) :
    (s.frontEnd nu i q).sumQ = nu.fadd s.sumQ (nu.fabs (nu.norm q)) := by
  simp [State.frontEnd, normalize]
@[simp] theorem State.frontEnd_meanI (nu : Numerics) (i q : Byte) : (s.frontEnd nu i q).meanI = s.meanI := by
  simp [State.frontEnd, normalize]
@[simp] theorem State.frontEnd_meanQ (nu : Numerics) (i q : Byte) : (s.frontEnd nu i q).meanQ = s.meanQ := by
  simp [State.frontEnd, normalize]
@[simp] theorem State.frontEnd_npairs (nu : Numerics) (i q : Byte) :
    (s.frontEnd nu i q).npairs = s.npairs + 1#31 := by
  simp [State.frontEnd]
@[simp] theorem State.frontEnd_outLen (nu : Numerics) (i q : Byte) : (s.frontEnd nu i q).outLen = s.outLen := by
  simp [State.frontEnd, normalize]
@[simp] theorem State.frontEnd_cap (nu : Numerics) (i q : Byte) : (s.frontEnd nu i q).cap = s.cap := by
  simp [State.frontEnd, normalize]
@[simp] theorem State.frontEnd_inCall (nu : Numerics) (i q : Byte) : (s.frontEnd nu i q).inCall = s.inCall := by
  simp [State.frontEnd, normalize]
@[simp] theorem State.frontEnd_fault (nu : Numerics) (i q : Byte) : (s.frontEnd nu i q).fault = s.fault := by
  simp [State.frontEnd, normalize]
@[simp] theorem State.frontEnd_cause (nu : Numerics) (i q : Byte) : (s.frontEnd nu i q).cause = s.cause := by
  simp [State.frontEnd, normalize]
@[simp] theorem State.frontEnd_draws (nu : Numerics) (i q : Byte) : (s.frontEnd nu i q).draws = s.draws := by
  simp [State.frontEnd, normalize]
@[simp] theorem State.frontEnd_inbox (nu : Numerics) (i q : Byte) : (s.frontEnd nu i q).inbox = s.inbox := by
  simp [State.frontEnd, normalize]
@[simp] theorem State.frontEnd_responses (nu : Numerics) (i q : Byte) :
    (s.frontEnd nu i q).responses = s.responses := by
  simp [State.frontEnd, normalize]

@[simp] theorem State.emit_stages (y : C32) : (s.emit y).stages = s.stages := rfl
@[simp] theorem State.emit_ovl (y : C32) : (s.emit y).ovl = s.ovl := rfl
@[simp] theorem State.emit_ovc (y : C32) : (s.emit y).ovc = s.ovc := rfl
@[simp] theorem State.emit_sumI (y : C32) : (s.emit y).sumI = s.sumI := rfl
@[simp] theorem State.emit_sumQ (y : C32) : (s.emit y).sumQ = s.sumQ := rfl
@[simp] theorem State.emit_meanI (y : C32) : (s.emit y).meanI = s.meanI := rfl
@[simp] theorem State.emit_meanQ (y : C32) : (s.emit y).meanQ = s.meanQ := rfl
@[simp] theorem State.emit_npairs (y : C32) : (s.emit y).npairs = s.npairs := rfl
@[simp] theorem State.emit_outLen (y : C32) : (s.emit y).outLen = s.outLen + 1#24 := rfl
@[simp] theorem State.emit_cap (y : C32) : (s.emit y).cap = s.cap := rfl
@[simp] theorem State.emit_inCall (y : C32) : (s.emit y).inCall = s.inCall := rfl
@[simp] theorem State.emit_fault (y : C32) : (s.emit y).fault = s.fault := rfl
@[simp] theorem State.emit_cause (y : C32) : (s.emit y).cause = s.cause := rfl
@[simp] theorem State.emit_draws (y : C32) : (s.emit y).draws = s.draws := rfl
@[simp] theorem State.emit_inbox (y : C32) : (s.emit y).inbox = s.inbox.tail := rfl
@[simp] theorem State.emit_responses (y : C32) :
    (s.emit y).responses = s.responses ++ [okResponse [y.re, y.im]] := rfl

@[simp] theorem State.writeMeans_stages (nu : Numerics) : (s.writeMeans nu).stages = s.stages := by
  unfold State.writeMeans; split <;> rfl
@[simp] theorem State.writeMeans_ovl (nu : Numerics) : (s.writeMeans nu).ovl = s.ovl := by
  unfold State.writeMeans; split <;> rfl
@[simp] theorem State.writeMeans_ovc (nu : Numerics) : (s.writeMeans nu).ovc = s.ovc := by
  unfold State.writeMeans; split <;> rfl
@[simp] theorem State.writeMeans_sumI (nu : Numerics) : (s.writeMeans nu).sumI = s.sumI := by
  unfold State.writeMeans; split <;> rfl
@[simp] theorem State.writeMeans_sumQ (nu : Numerics) : (s.writeMeans nu).sumQ = s.sumQ := by
  unfold State.writeMeans; split <;> rfl
@[simp] theorem State.writeMeans_npairs (nu : Numerics) : (s.writeMeans nu).npairs = s.npairs := by
  unfold State.writeMeans; split <;> rfl
@[simp] theorem State.writeMeans_outLen (nu : Numerics) : (s.writeMeans nu).outLen = s.outLen := by
  unfold State.writeMeans; split <;> rfl
@[simp] theorem State.writeMeans_cap (nu : Numerics) : (s.writeMeans nu).cap = s.cap := by
  unfold State.writeMeans; split <;> rfl
@[simp] theorem State.writeMeans_inCall (nu : Numerics) : (s.writeMeans nu).inCall = s.inCall := by
  unfold State.writeMeans; split <;> rfl
@[simp] theorem State.writeMeans_fault (nu : Numerics) : (s.writeMeans nu).fault = s.fault := by
  unfold State.writeMeans; split <;> rfl
@[simp] theorem State.writeMeans_cause (nu : Numerics) : (s.writeMeans nu).cause = s.cause := by
  unfold State.writeMeans; split <;> rfl
@[simp] theorem State.writeMeans_inbox (nu : Numerics) : (s.writeMeans nu).inbox = s.inbox := by
  unfold State.writeMeans; split <;> rfl
@[simp] theorem State.writeMeans_responses (nu : Numerics) : (s.writeMeans nu).responses = s.responses := by
  unfold State.writeMeans; split <;> rfl

@[simp] theorem State.withFetchWord_stages (nbits w : Nat) : (s.withFetchWord nbits w).stages = s.stages := rfl
@[simp] theorem State.withFetchWord_ovl (nbits w : Nat) : (s.withFetchWord nbits w).ovl = s.ovl := rfl
@[simp] theorem State.withFetchWord_ovc (nbits w : Nat) : (s.withFetchWord nbits w).ovc = s.ovc := rfl
@[simp] theorem State.withFetchWord_sumI (nbits w : Nat) : (s.withFetchWord nbits w).sumI = s.sumI := rfl
@[simp] theorem State.withFetchWord_sumQ (nbits w : Nat) : (s.withFetchWord nbits w).sumQ = s.sumQ := rfl
@[simp] theorem State.withFetchWord_meanI (nbits w : Nat) : (s.withFetchWord nbits w).meanI = s.meanI := rfl
@[simp] theorem State.withFetchWord_meanQ (nbits w : Nat) : (s.withFetchWord nbits w).meanQ = s.meanQ := rfl
@[simp] theorem State.withFetchWord_npairs (nbits w : Nat) : (s.withFetchWord nbits w).npairs = s.npairs := rfl
@[simp] theorem State.withFetchWord_outLen (nbits w : Nat) : (s.withFetchWord nbits w).outLen = s.outLen := rfl
@[simp] theorem State.withFetchWord_cap (nbits w : Nat) : (s.withFetchWord nbits w).cap = s.cap := rfl
@[simp] theorem State.withFetchWord_inCall (nbits w : Nat) : (s.withFetchWord nbits w).inCall = s.inCall := rfl
@[simp] theorem State.withFetchWord_fault (nbits w : Nat) : (s.withFetchWord nbits w).fault = s.fault := rfl
@[simp] theorem State.withFetchWord_cause (nbits w : Nat) : (s.withFetchWord nbits w).cause = s.cause := rfl
@[simp] theorem State.withFetchWord_draws (nbits w : Nat) : (s.withFetchWord nbits w).draws = s.draws := rfl
@[simp] theorem State.withFetchWord_inbox (nbits w : Nat) :
    (s.withFetchWord nbits w).inbox = .command (tableWord nbits w) :: s.inbox := rfl
@[simp] theorem State.withFetchWord_responses (nbits w : Nat) :
    (s.withFetchWord nbits w).responses = s.responses := rfl

/-- The reset event keeps the ports: the inputs behind it wait, the responses given stay (R200). -/
@[simp] theorem State.hostReset_inbox (cfg : Cfg) : (s.hostReset cfg).inbox = s.inbox.tail := rfl
@[simp] theorem State.hostReset_responses (cfg : Cfg) : (s.hostReset cfg).responses = s.responses := rfl

end Sys2Proof.Machine
end

