-- ==== Sys2Proof/Laws/Ops.lean ====
section
/-!
SUPPORT. What each shared operation can do, said once (60_exceptions.md R170, R174; 70_reset_and_hazards.md R200).
-/

namespace Sys2Proof.Machine

/-! The checks that come first in a command. -/

theorem State.unlessFaulted_of_faulted {s : State} (h : s.fault = true) (body : State → State) :
    s.unlessFaulted body = s.answerFaulted := by
  simp [State.unlessFaulted, h]

theorem State.unlessFaulted_of_running {s : State} (h : s.fault = false) (body : State → State) :
    s.unlessFaulted body = body s := by
  simp [State.unlessFaulted, h]

theorem State.whenIdle_idle {s : State} (hf : s.fault = false) (hc : s.inCall = false) (body : State → State) :
    s.whenIdle body = body s := by
  simp [State.whenIdle, State.unlessFaulted_of_running hf, hc]

theorem State.whenIdle_inCall {s : State} (hf : s.fault = false) (hc : s.inCall = true) (body : State → State) :
    s.whenIdle body = s.raise .protocol := by
  simp [State.whenIdle, State.unlessFaulted_of_running hf, hc]

theorem State.whenInCall_inCall {s : State} (hf : s.fault = false) (hc : s.inCall = true) (body : State → State) :
    s.whenInCall body = body s := by
  simp [State.whenInCall, State.unlessFaulted_of_running hf, hc]

theorem State.whenInCall_idle {s : State} (hf : s.fault = false) (hc : s.inCall = false) (body : State → State) :
    s.whenInCall body = s.raise .protocol := by
  simp [State.whenInCall, State.unlessFaulted_of_running hf, hc]

/-- A command legal in IDLE does one of three things. -/
theorem State.whenIdle_cases (s : State) (body : State → State) :
    (s.fault = true ∧ s.whenIdle body = s.answerFaulted)
      ∨ (s.fault = false ∧ s.inCall = true ∧ s.whenIdle body = s.raise .protocol)
      ∨ (s.fault = false ∧ s.inCall = false ∧ s.whenIdle body = body s) := by
  rcases hf : s.fault with _ | _
  · rcases hc : s.inCall with _ | _
    · exact .inr (.inr ⟨rfl, rfl, State.whenIdle_idle hf hc body⟩)
    · exact .inr (.inl ⟨rfl, rfl, State.whenIdle_inCall hf hc body⟩)
  · exact .inl ⟨rfl, State.unlessFaulted_of_faulted hf _⟩

/-- A command legal in IN_CALL does one of three things. -/
theorem State.whenInCall_cases (s : State) (body : State → State) :
    (s.fault = true ∧ s.whenInCall body = s.answerFaulted)
      ∨ (s.fault = false ∧ s.inCall = false ∧ s.whenInCall body = s.raise .protocol)
      ∨ (s.fault = false ∧ s.inCall = true ∧ s.whenInCall body = body s) := by
  rcases hf : s.fault with _ | _
  · rcases hc : s.inCall with _ | _
    · exact .inr (.inl ⟨rfl, rfl, State.whenInCall_idle hf hc body⟩)
    · exact .inr (.inr ⟨rfl, rfl, State.whenInCall_inCall hf hc body⟩)
  · exact .inl ⟨rfl, State.unlessFaulted_of_faulted hf _⟩

/-- PAIR behind the protocol check does one of three things (R140, R178). -/
theorem State.pairChecked_cases (s : State) (nu : Numerics) (i q : Byte) :
    (s.npairs = maxPairs ∧ s.pairChecked nu i q = s.raise .callTooLong)
      ∨ (s.npairs ≠ maxPairs ∧ (s.wouldEmit && s.outLen == s.cap) = true
          ∧ s.pairChecked nu i q = s.raise .outputCapacity)
      ∨ (s.npairs ≠ maxPairs ∧ (s.wouldEmit && s.outLen == s.cap) = false
          ∧ s.pairChecked nu i q = s.pairBody nu i q) := by
  by_cases hn : s.npairs = maxPairs
  · exact .inl ⟨hn, by simp [State.pairChecked, hn]⟩
  · rcases he : (s.wouldEmit && s.outLen == s.cap) with _ | _
    · exact .inr (.inr ⟨hn, rfl, by simp [State.pairChecked, hn, he]⟩)
    · exact .inr (.inl ⟨hn, rfl, by simp [State.pairChecked, hn, he]⟩)

/-- The body of PAIR, by what the chain gives (R141). -/
theorem State.pairBody_emit {s : State} {nu : Numerics} {i q : Byte} {y : C32}
    (h : (chain nu s.stages (normalize nu i q)).2 = some y) :
    s.pairBody nu i q =
      State.emit { s.frontEnd nu i q with stages := (chain nu s.stages (normalize nu i q)).1 } y := by
  simp [State.pairBody, h]

theorem State.pairBody_stall {s : State} {nu : Numerics} {i q : Byte}
    (h : (chain nu s.stages (normalize nu i q)).2 = none) :
    s.pairBody nu i q =
      State.answer { s.frontEnd nu i q with stages := (chain nu s.stages (normalize nu i q)).1 } [] := by
  simp [State.pairBody, h]

/-- The emission condition, in the spec's words (R140). -/
theorem State.wouldEmit_iff (s : State) : s.wouldEmit = true ↔ ∀ g ∈ s.stages, g.need = 1 := by
  simp [State.wouldEmit]

/-! One step, by the oldest input. -/

theorem step_empty {s : State} (h : s.inbox = []) : step s = .next s := by simp [step, h]

theorem step_reset {s : State} {cfg : Cfg} {rest : List PortInput} (h : s.inbox = .reset cfg :: rest) :
    step s = .next (s.hostReset cfg) := by simp [step, h]

theorem step_legal {s : State} {w : Word} {rest : List PortInput} {i : Instr}
    (h : s.inbox = .command w :: rest) (hd : decode w = .ok i) : step s = exec i s := by simp [step, h, hd]

theorem step_illegal {s : State} {w : Word} {rest : List PortInput} {e : Illegal}
    (h : s.inbox = .command w :: rest) (hd : decode w = .error e) : step s = .next s.illegalWord := by
  simp [step, h, hd]

/-! The header words a command can answer with (R75). -/

theorem okResponse_none : okResponse [] = ⟨0x00000000#32, []⟩ := rfl

theorem okResponse_one (a : Word) : okResponse [a] = ⟨0x00000001#32, [a]⟩ := by
  simp [okResponse, responseHeader]

theorem okResponse_two (a b : Word) : okResponse [a, b] = ⟨0x00000002#32, [a, b]⟩ := by
  simp [okResponse, responseHeader]

theorem errorResponse_illegalCommand : errorResponse Cause.illegalCommand.code = ⟨0x80100000#32, []⟩ := by decide

theorem errorResponse_protocol : errorResponse Cause.protocol.code = ⟨0x80110000#32, []⟩ := by decide

theorem errorResponse_outputCapacity : errorResponse Cause.outputCapacity.code = ⟨0x80200000#32, []⟩ := by decide

theorem errorResponse_callTooLong : errorResponse Cause.callTooLong.code = ⟨0x80210000#32, []⟩ := by decide

theorem errorResponse_eq (c : BitVec 8) :
    errorResponse c = ⟨0x80000000#32 ||| (c.zeroExtend 32 <<< 16), []⟩ := by
  revert c; decide

end Sys2Proof.Machine
end

