-- ==== Sys2Proof/Laws/FirStage.lean ====
section
/-!
SUPPORT. The ring operations and STG.ADD: what they write, and that they keep the form of a stage (42_stage.md R121;
10_state.md R39).
-/

namespace Sys2Proof.Machine

@[simp] theorem Stage.ringWrite_cfg (g : Stage) (j : Nat) (v : C32) : (g.ringWrite j v).cfg = g.cfg := rfl
@[simp] theorem Stage.ringWrite_wpos (g : Stage) (j : Nat) (v : C32) : (g.ringWrite j v).wpos = g.wpos := rfl
@[simp] theorem Stage.ringWrite_need (g : Stage) (j : Nat) (v : C32) : (g.ringWrite j v).need = g.need := rfl
@[simp] theorem Stage.ringWrite_ring (g : Stage) (j : Nat) (v : C32) :
    (g.ringWrite j v).ring = g.ring.set j v := rfl

/-- A read inside the ring gives the slot (R11). -/
theorem Stage.ringRead_of_lt {g : Stage} {j : Nat} (h : j < g.ring.length) : g.ringRead j = g.ring[j] := by
  simp [Stage.ringRead, h]

/-- A read after a write to the same slot gives the value written. -/
theorem Stage.ringRead_ringWrite_same {g : Stage} {j : Nat} (h : j < g.ring.length) (v : C32) :
    (g.ringWrite j v).ringRead j = v := by
  simp [Stage.ringRead, h]

/-- A write leaves every other slot alone. -/
theorem Stage.ringRead_ringWrite_other {g : Stage} {j k : Nat} (h : j ≠ k) (v : C32) :
    (g.ringWrite j v).ringRead k = g.ringRead k := by
  simp [Stage.ringRead, List.getElem?_set_ne h]

/-- The advance of the write position is the step modulo `N[k]` (R106(b)). -/
theorem Stage.nextWpos_eq {g : Stage} (h : g.wpos < g.size) : g.nextWpos = (g.wpos + 1) % g.size := by
  unfold Stage.nextWpos
  split
  · rw [show g.wpos + 1 = g.size by omega, Nat.mod_self]
  · rw [Nat.mod_eq_of_lt (by omega)]

@[simp] theorem stgAdd_cfg (g : Stage) (x : C32) : (stgAdd g x).1.cfg = g.cfg := by
  unfold stgAdd; dsimp only; split <;> rfl

@[simp] theorem stgAdd_ring (g : Stage) (x : C32) : (stgAdd g x).1.ring = g.ring.set g.wpos x := by
  unfold stgAdd; dsimp only; split <;> rfl

@[simp] theorem stgAdd_wpos (g : Stage) (x : C32) : (stgAdd g x).1.wpos = g.nextWpos := by
  unfold stgAdd; dsimp only; split <;> rfl

@[simp] theorem stgAdd_size (g : Stage) (x : C32) : (stgAdd g x).1.size = g.size := by
  simp [Stage.size]

@[simp] theorem stgAdd_period (g : Stage) (x : C32) : (stgAdd g x).1.period = g.period := by
  simp [Stage.period]

theorem stgAdd_need (g : Stage) (x : C32) :
    (stgAdd g x).1.need = if g.need - 1 = 0 then g.period else g.need - 1 := by
  unfold stgAdd; dsimp only; split <;> rfl

theorem stgAdd_ready (g : Stage) (x : C32) : (stgAdd g x).2 = decide (g.need - 1 = 0) := by
  unfold stgAdd; dsimp only; split <;> simp_all

/-- STG.ADD keeps the form of a stage (R39(a), (b), (c)): the canonical form of the ring RAM. -/
theorem stgAdd_wf {g : Stage} (h : g.Wf) (x : C32) : (stgAdd g x).1.Wf := by
  obtain ⟨hl, hw, h1, hp⟩ := h
  refine ⟨by simpa using hl, ?_, ?_, ?_⟩
  · rw [stgAdd_wpos, stgAdd_size, Stage.nextWpos_eq hw]
    exact Nat.mod_lt _ (by omega)
  · rw [stgAdd_need]; split <;> omega
  · rw [stgAdd_need, stgAdd_period]; split <;> omega

/-- A constructed stage has the form of a stage, if its descriptor is valid (R201). -/
theorem Stage.fresh_wf {c : StageCfg} (hm : 1 ≤ c.factor) (hn : 1 ≤ c.taps.length) : (Stage.fresh c).Wf :=
  ⟨by simp [Stage.fresh, Stage.size], Nat.lt_of_lt_of_le Nat.zero_lt_one hn, hm, Nat.le_refl _⟩

/-- What the chain does with its first stage (R141). -/
theorem chain_cons_ready {nu : Numerics} {g : Stage} {gs : List Stage} {x : C32} (h : (stgAdd g x).2 = true) :
    chain nu (g :: gs) x =
      ((stgAdd g x).1 :: (chain nu gs (stgCalc nu (stgAdd g x).1)).1,
       (chain nu gs (stgCalc nu (stgAdd g x).1)).2) := by
  rcases he : stgAdd g x with ⟨g', b⟩
  rw [he] at h
  simp only at h
  subst h
  simp [chain, he]

theorem chain_cons_stall {nu : Numerics} {g : Stage} {gs : List Stage} {x : C32} (h : (stgAdd g x).2 = false) :
    chain nu (g :: gs) x = ((stgAdd g x).1 :: gs, none) := by
  rcases he : stgAdd g x with ⟨g', b⟩
  rw [he] at h
  simp only at h
  subst h
  simp [chain, he]

end Sys2Proof.Machine
end

