-- ==== Sys2Proof/Laws/Float.lean ====
section
/-!
SUPPORT. The classes of binary32 data exclude one another, and the NaN an operation returns is quiet (40_numerics.md R91,
R98).
-/

namespace Sys2Proof.Machine

theorem F32.isNan_of_isInf {a : F32} (h : F32.isInf a = true) : F32.isNan a = false := by
  simp [F32.isInf] at h
  simp [F32.isNan, h]

theorem F32.isNan_of_isZero {a : F32} (h : F32.isZero a = true) : F32.isNan a = false := by
  simp [F32.isZero] at h
  simp [F32.isNan, h]

theorem F32.isInf_of_isZero {a : F32} (h : F32.isZero a = true) : F32.isInf a = false := by
  simp [F32.isZero] at h
  simp [F32.isInf, h]

/-- The bits `quietNan` sets make a quiet NaN, whatever the others are. -/
theorem F32.isQuietNan_or (x : F32) : F32.isQuietNan (x ||| 0x7FC00000#32) = true := by
  have he : F32.exp (x ||| 0x7FC00000#32) = 255 := by
    have : (x ||| 0x7FC00000#32).extractLsb' 23 8 = 255#8 := by
      apply BitVec.eq_of_getLsbD_eq
      intro i hi
      simp
      interval_cases i <;> simp
    simp [F32.exp, this]
  have hf : F32.frac (x ||| 0x7FC00000#32) ≠ 0 := by
    intro h
    have h0 : (x ||| 0x7FC00000#32).extractLsb' 0 23 = 0#23 := BitVec.eq_of_toNat_eq (by simpa [F32.frac] using h)
    simpa using congrArg (fun v => v.getLsbD 22) h0
  simp [F32.isQuietNan, F32.isNan, he, hf]

theorem quietNan_isQuietNan (op : FpOp) (a b : F32) : F32.isQuietNan (quietNan op a b) = true :=
  F32.isQuietNan_or _

theorem quietNan_isNan (op : FpOp) (a b : F32) : F32.isNan (quietNan op a b) = true := by
  have h := quietNan_isQuietNan op a b
  simp only [F32.isQuietNan, Bool.and_eq_true] at h
  exact h.1

end Sys2Proof.Machine
end

