-- ==== Sys2Proof/Laws/PerInstr.lean ====
section
/-!
SUPPORT. The per-command family Fields: where an encoded command carries its opcode, its zero field and its operand
(30_encoding.md R70, R72-R74).
-/

namespace Sys2Proof.Laws.Fields

/-- The fields of the command word of `i`, as R70 lays them out. -/
def Statement (i : Instr) : Prop :=
  fieldOp (encode i) = i.opcode ∧ fieldRsv (encode i) = 0#4 ∧ fieldArg (encode i) = i.arg

theorem nop : Statement .nop := by unfold Statement; decide

theorem beginCall (cap : BitVec 24) : Statement (.beginCall cap) := by
  refine ⟨?_, ?_, ?_⟩ <;>
    (apply BitVec.eq_of_getLsbD_eq; intro k hk
     simp [fieldOp, fieldRsv, fieldArg, encode, Instr.opcode, Instr.arg])
  all_goals (interval_cases k <;> simp)

theorem pair (i q : Byte) : Statement (.pair i q) := by
  refine ⟨?_, ?_, ?_⟩ <;>
    (apply BitVec.eq_of_getLsbD_eq; intro k hk
     simp [fieldOp, fieldRsv, fieldArg, encode, Instr.opcode, Instr.arg])
  all_goals (interval_cases k <;> simp)

theorem endCall : Statement .endCall := by unfold Statement; decide

theorem rdtot : Statement .rdtot := by unfold Statement; decide

theorem rdmi : Statement .rdmi := by unfold Statement; decide

theorem rdmq : Statement .rdmq := by unfold Statement; decide

theorem rdovl : Statement .rdovl := by unfold Statement; decide

theorem rdovc : Statement .rdovc := by unfold Statement; decide

end Sys2Proof.Laws.Fields
end

