-- ==== Sys2Proof/Tests/Slice0.lean ====
section
/-!
SUPPORT. Tests: ill-formed words, operands and configurations; one-step tests with the spec's own values
(95_test_vectors.md, named in each comment); and, for every obligation with hypotheses, states that meet them.
-/

namespace Sys2Proof.Tests

open Sys2Proof.Machine

/-! ## Helpers -/

/-- `C02 = RN32(0.2)` (95_test_vectors.md). -/
abbrev c02 : F32 := 0x3E4CCCCD#32

/-- The identity instance, `CFG = [(1, [1.0])]`, after reset (program P1). -/
def identity : State := State.construct [⟨1, [0x3F800000#32]⟩] 0

/-- The instance of programs P3 and P4, `CFG = [(2, [0.5, 0.5])]`, after reset. -/
def average : State := State.construct [⟨2, [0x3F000000#32, 0x3F000000#32]⟩] 0

/-- In a call with the given capacity. -/
def inACall (s : State) (cap : BitVec 24) : State := { s with inCall := true, cap := cap }

/-- FAULTED with OUTPUT_CAPACITY. -/
def faulted (s : State) : State := { s with fault := true, cause := 0x20#8 }

/-- With one command word on the port. -/
def given (s : State) (w : Word) : State := { s with inbox := [.command w] }

/-- With one reset event on the port. -/
def resetting (s : State) (cfg : Cfg) : State := { s with inbox := [.reset cfg] }

/-- The state after one step. -/
def after (s : State) : State :=
  match step s with
  | .next t => t
  | .fault _ => s
  | .refused _ => s

/-- The responses a state has given after one step on the word `w`. -/
def answer (s : State) (w : Word) : List Response := (after (given s w)).responses

/-- A stage with `M = 2`, `N = 3` and the taps of T-S3. -/
def stage23 : Stage := Stage.fresh ⟨2, [0x3E800000#32, 0x3F000000#32, 0x3F800000#32]⟩

/-- Three samples that differ in every lane. -/
def x1 : C32 := ⟨0xBF6BEBEC#32, 0xBF57D7D8#32⟩
def x2 : C32 := ⟨0xBF43C3C4#32, 0xBF2FAFB0#32⟩
def x3 : C32 := ⟨0xBF1B9B9C#32, 0xBF078788#32⟩

/-! ## Ill-formed words (30_encoding.md R77), operands (R80) and configurations (60_exceptions.md R172) -/

theorem test_every_command_wellFormed :
    (Instr.beginCall 0xFFFFFF#24).wellFormed = true ∧ (Instr.pair 0#8 255#8).wellFormed = true := by decide

theorem test_illformed_opcode :
    decode 0x90000000#32 = .error .opcode ∧ decode 0xF0000000#32 = .error .opcode := by decide

theorem test_illformed_reserved :
    decode 0x11000000#32 = .error .reserved ∧ decode 0x21000000#32 = .error .reserved
      ∧ decode 0xFFFFFFFF#32 = .error .reserved := by decide

theorem test_illformed_pair_zero : decode 0x20010000#32 = .error .pairZero := by decide

theorem test_illformed_nop : decode 0x00000001#32 = .error .operand := by decide

theorem test_illformed_end : decode 0x30000001#32 = .error .operand := by decide

theorem test_illformed_rdtot : decode 0x40800000#32 = .error .operand := by decide

theorem test_illformed_rdmi : decode 0x50000001#32 = .error .operand := by decide

theorem test_illformed_rdmq : decode 0x60000100#32 = .error .operand := by decide

theorem test_illformed_rdovl : decode 0x70010000#32 = .error .operand := by decide

theorem test_illformed_rdovc : decode 0x80000100#32 = .error .operand := by decide

theorem test_illformed_table_word : decodeTableWord 32 0x20010000 = none := by decide

theorem test_illformed_operands :
    assemble ['B', 'E', 'G', 'I', 'N'] [16777216] = .error .outOfRange
      ∧ assemble ['P', 'A', 'I', 'R'] [256, 0] = .error .outOfRange
      ∧ assemble ['P', 'A', 'I', 'R'] [0, 256] = .error .outOfRange
      ∧ assemble ['P', 'A', 'I', 'R'] [0] = .error .operandCount
      ∧ assemble ['N', 'O', 'P'] [0] = .error .operandCount
      ∧ assemble ['n', 'o', 'p'] [] = .error .unknownMnemonic := by decide

/-- R81: an odd number of bytes. -/
theorem test_illformed_decimate :
    assemble ['D', 'E', 'C', 'I', 'M', 'A', 'T', 'E'] [4, 0, 128, 255] = .error .malformedLength := by decide

/-- The largest operands are taken (95_test_vectors.md T-E1). -/
theorem test_wellformed_operands :
    assemble ['B', 'E', 'G', 'I', 'N'] [16777215] = .ok [.beginCall 0xFFFFFF#24]
      ∧ assemble ['P', 'A', 'I', 'R'] [255, 10] = .ok [.pair 255#8 10#8] := by decide

theorem test_illformed_cfg_no_stages : Cfg.valid [] = false ∧ cfgCause [] = some .cfgNoStages := by decide

theorem test_illformed_cfg_zero_factor :
    Cfg.valid [⟨0, []⟩] = false ∧ cfgCause [⟨0, []⟩] = some .cfgZeroFactor := by decide

theorem test_illformed_cfg_no_taps :
    Cfg.valid [⟨1, []⟩, ⟨0, [c02]⟩] = false ∧ cfgCause [⟨1, []⟩, ⟨0, [c02]⟩] = some .cfgNoTaps := by decide

theorem test_illformed_cfg_total :
    Cfg.valid [⟨65536, [c02]⟩, ⟨65536, [c02]⟩] = false
      ∧ cfgCause [⟨65536, [c02]⟩, ⟨65536, [c02]⟩] = some .cfgRange := by decide

theorem test_illformed_cfg_factor :
    Cfg.valid [⟨4294967296, [c02]⟩] = false ∧ cfgCause [⟨4294967296, [c02]⟩] = some .cfgRange := by decide

theorem test_illformed_cfg_taps (n : Nat) (h : maxParam < n) :
    Cfg.valid [⟨1, List.replicate n c02⟩] = false := by
  simp [Cfg.valid]
  omega

/-- 95_test_vectors.md T-X3: `TOTAL = 2^32 - 1` is valid. -/
theorem test_wellformed_cfg :
    Cfg.valid [⟨65535, [c02]⟩, ⟨65537, [c02]⟩] = true ∧ cfgCause [⟨65535, [c02]⟩, ⟨65537, [c02]⟩] = none := by decide

/-! ## Encoding (95_test_vectors.md T-E1, T-E2) -/

theorem test_encode_words :
    encode (.beginCall 150#24) = 0x10000096#32 ∧ encode (.pair 10#8 11#8) = 0x20000B0A#32
      ∧ encode (.pair 120#8 121#8) = 0x20007978#32 := by decide

theorem test_decode_words :
    decode 0x20000AFF#32 = .ok (.pair 255#8 10#8) ∧ decode 0x200032C8#32 = .ok (.pair 200#8 50#8)
      ∧ decode 0x1000000A#32 = .ok (.beginCall 10#24) := by decide

/-- A line of program P1, with a comment. -/
theorem test_assemble_line :
    assembleLine ['P', 'A', 'I', 'R', ' ', '0', ',', ' ', '0', 'x', '8', '0', ' ', ';', 'Q'] =
      .ok [.pair 0#8 128#8] := by decide

/-- 30_encoding.md R81 on the bytes of 43_pipeline.md R54's order. -/
theorem test_expand_decimate :
    expandDecimate 1#24 [10, 11, 20, 21] = .ok [.beginCall 1#24, .pair 10 11, .pair 20 21, .endCall]
      ∧ expandDecimate 4#24 [1, 2, 3] = .error .malformedLength := by decide

/-! ## Arithmetic (95_test_vectors.md T-N1 to T-N4, T-F2) -/

theorem test_fadd :
    fadd 0x3B808081#32 0x3F6BEBEC#32 = 0x3F6CECED#32 ∧ fadd 0x4B800000#32 0x3F800000#32 = 0x4B800000#32
      ∧ fadd 0x00000000#32 0x80000000#32 = 0x00000000#32 ∧ fadd 0x3F119192#32 0xBF119192#32 = 0x00000000#32 := by
  decide

theorem test_fmul :
    fmul 0x3E4CCCCD#32 0xBF1B9B9C#32 = 0xBDF8F8FA#32 ∧ fmul 0xBF800000#32 0x00000000#32 = 0x80000000#32
      ∧ fmul 0x3DCCCCCD#32 0x3DCCCCCD#32 = 0x3C23D70B#32 := by decide

theorem test_fdiv : fdiv 0x3F800000#32 0x40400000#32 = 0x3EAAAAAB#32 := by decide

theorem test_u2f :
    u2f 300 = 0x43960000#32 ∧ u2f 16777217 = 0x4B800000#32 ∧ u2f 16777219 = 0x4B800002#32
      ∧ u2f 4294967294 = 0x4F800000#32 := by decide

theorem test_fabs : fabs 0xBF1B9B9C#32 = 0x3F1B9B9C#32 := by decide

/-- T-N4: a fused multiply-add would give `0x3EAEAEAF`. -/
theorem test_cmac :
    cmac numerics ⟨0x3E68E8EA#32, 0xBE78F8FA#32⟩ c02 ⟨0x3F119192#32, 0xBF1B9B9C#32⟩ =
      ⟨0x3EAEAEB0#32, 0xBEBABABC#32⟩ := by decide

theorem test_norm :
    normEntry 1 = 0xBF7DFDFE#32 ∧ normEntry 64 = 0xBEFEFEFF#32 ∧ normEntry 191 = 0x3EFEFEFF#32 := by decide

/-! ## The stage (95_test_vectors.md T-S1, T-S3) -/

/-- T-S1, rows 1 and 2. -/
theorem test_stgAdd :
    (stgAdd stage23 x1).2 = false ∧ (stgAdd stage23 x1).1.need = 1
      ∧ stgAdd (stgAdd stage23 x1).1 x2 =
          ({ stage23 with ring := [x1, x2, C32.zero], wpos := 2, need := 2 }, true) := by decide

/-- T-S1, row 3: the write position wraps. -/
theorem test_stgAdd_wraps : (stage23.acceptAll [x1, x2, x3]).wpos = 0 := by decide

/-- T-S3 after pair 2: `0.25 * 0 + 0.5 * x1 + 1.0 * x2`. -/
theorem test_stgCalc :
    stgCalc numerics (stage23.acceptAll [x1, x2]) = ⟨0xBF9CDCDD#32, 0xBF8DCDCE#32⟩ := by decide

/-! ## One step per command -/

/-- Program P2, command 7, and T-X1. -/
theorem test_nop :
    answer identity 0x00000000#32 = [⟨0x00000000#32, []⟩]
      ∧ answer (faulted identity) 0x00000000#32 = [⟨0x80200000#32, []⟩] := by decide

/-- R136's worked example. -/
theorem test_begin :
    (after (given identity 0x1000000A#32)).cap = 10 ∧ (after (given identity 0x1000000A#32)).inCall = true
      ∧ answer identity 0x1000000A#32 = [⟨0x00000000#32, []⟩] := by decide

/-- T-X1: BEGIN in a call. -/
theorem test_begin_twice : answer (inACall identity 0) 0x10000000#32 = [⟨0x80110000#32, []⟩] := by decide

/-- Program P1, command 3. -/
theorem test_pair_emits :
    answer (inACall identity 4) 0x20008000#32 = [⟨0x00000002#32, [0xBF800000#32, 0x3B808081#32]⟩]
      ∧ (after (given (inACall identity 4) 0x20008000#32)).ovc = 1
      ∧ (after (given (inACall identity 4) 0x20008000#32)).sumQ = 0x3B808081#32 := by decide

/-- Program P3, command 2: no emission, the countdown moves. -/
theorem test_pair_stalls :
    answer (inACall average 1) 0x200000FF#32 = [⟨0x00000000#32, []⟩]
      ∧ (after (given (inACall average 1) 0x200000FF#32)).stages.map (·.need) = [1] := by decide

/-- R143's worked example: four pairs (191, 191). -/
theorem test_end :
    (after (given { inACall average 0 with npairs := 4, sumI := 0x3FFEFEFF#32 } 0x30000000#32)).meanI = 0x3E7EFEFF#32
      ∧ answer { inACall average 9 with npairs := 4, outLen := 2 } 0x30000000#32
          = [⟨0x00000001#32, [0x00000002#32]⟩] := by decide

/-- T-P8: a zero-length call. -/
theorem test_end_empty :
    answer (inACall identity 0) 0x30000000#32 = [⟨0x00000001#32, [0x00000000#32]⟩]
      ∧ (after (given (inACall identity 0) 0x30000000#32)).inCall = false := by decide

/-- T-A1. -/
theorem test_rdtot :
    answer State.reset 0x40000000#32 = [⟨0x00000001#32, [0x0000000F#32]⟩]
      ∧ answer identity 0x40000000#32 = [⟨0x00000001#32, [0x00000001#32]⟩] := by decide

/-- T-A5. -/
theorem test_rdmi :
    answer { identity with meanI := 0x3EDF5F60#32 } 0x50000000#32 = [⟨0x00000001#32, [0x3EDF5F60#32]⟩] := by decide

theorem test_rdmq :
    answer { identity with meanQ := 0x3E9A9A9B#32 } 0x60000000#32 = [⟨0x00000001#32, [0x3E9A9A9B#32]⟩] := by decide

/-- T-A2. -/
theorem test_rdovl :
    answer { identity with ovl := true, ovc := 2 } 0x70000000#32 = [⟨0x00000001#32, [0x00000001#32]⟩]
      ∧ (after (given { identity with ovl := true, ovc := 2 } 0x70000000#32)).ovl = false
      ∧ (after (given { identity with ovl := true, ovc := 2 } 0x70000000#32)).ovc = 2 := by decide

/-- T-A6. -/
theorem test_rdovl_in_a_call :
    answer (inACall { identity with ovl := true } 1) 0x70000000#32 = [⟨0x80110000#32, []⟩]
      ∧ (after (given (inACall { identity with ovl := true } 1) 0x70000000#32)).ovl = true := by decide

/-- T-A3. -/
theorem test_rdovc :
    answer { identity with ovl := true, ovc := 2 } 0x80000000#32 = [⟨0x00000001#32, [0x00000002#32]⟩]
      ∧ (after (given { identity with ovl := true, ovc := 2 } 0x80000000#32)).ovc = 0
      ∧ (after (given { identity with ovl := true, ovc := 2 } 0x80000000#32)).ovl = true := by decide

/-- T-F1: the count wraps, one increment for two clipping bytes. -/
theorem test_clip :
    (({ identity with ovc := 0xFFFFFFFF#32 } : State).clip 0 1).ovc = 0
      ∧ (({ identity with ovl := true, ovc := 7 } : State).clip 1 254).ovc = 7
      ∧ (identity.clip 0 255).ovc = 1 ∧ (identity.clip 128 0).ovl = true ∧ (identity.clip 127 128).ovl = false := by
  decide

/-- T-X2. -/
theorem test_priority :
    answer { inACall identity 0 with npairs := maxPairs } 0x20000000#32 = [⟨0x80210000#32, []⟩]
      ∧ answer identity 0x20010000#32 = [⟨0x80100000#32, []⟩]
      ∧ answer (faulted identity) 0x90000000#32 = [⟨0x80200000#32, []⟩] := by decide

/-- T-X1, last row: the refused pair (0, 128) is not counted as a clip. -/
theorem test_capacity_is_precise :
    after (given (inACall identity 0) 0x20008000#32) =
      { inACall identity 0 with fault := true, cause := 0x20, responses := [⟨0x80200000#32, []⟩] } := by decide

/-- T-R1 and T-R2: a reset event in the middle of a call. -/
theorem test_reset :
    after (resetting { inACall average 7 with ovl := true, npairs := 3 } Config.cfg) = State.reset
      ∧ State.reset.stages.map (·.need) = [5, 3] ∧ State.reset.stages.map (·.wpos) = [0, 0] := by decide

/-- T-X3: every command is answered with the configuration cause. -/
theorem test_reset_invalid :
    (after (resetting identity [⟨1, [c02]⟩, ⟨0, []⟩])).cause = 0x01#8
      ∧ (answer (State.construct [] 0) 0x40000000#32) = [⟨0x80030000#32, []⟩] := by decide

/-- T-P1, its first pair, through the driver; T-P9. -/
theorem test_decimate :
    (decimate 4 [0, 128] identity).2 = .done [⟨0xBF800000#32, 0x3B808081#32⟩] 1
      ∧ decimate 4 [0, 128, 255] identity = (identity, .malformedLength) := by decide

/-! ## Witnesses: states and operands that meet the hypotheses of the obligations -/

/-- EncodeOfDecodeIsTheWord. -/
theorem witness_EncodeOfDecode : decode 0x2000FFFF#32 = .ok (.pair 255 255) := by decide

/-- StepPerformsTheNextCommand, EveryCommandWordIsAnsweredOnce. -/
theorem witness_StepPerforms :
    (given identity 0x40000000#32).inbox = .command 0x40000000#32 :: [] ∧ decode 0x40000000#32 = .ok .rdtot := by
  decide

/-- EveryCommandWordIsAnsweredOnce: an answer with and one without ERR. -/
theorem witness_AnsweredOnce :
    (after (given identity 0x20000000#32)).fault = true ∧ (after (given identity 0x00000000#32)).fault = false := by
  decide

/-- EmptyPortHoldsTheState. -/
theorem witness_EmptyPort : State.reset.inbox = [] := by decide

/-- FaultedBlockAnswersTheStoredCause: a FAULTED block given an illegal word; a reset that leaves FAULTED. -/
theorem witness_FaultedBlock :
    (given (faulted identity) 0x90000000#32).inbox = .command 0x90000000#32 :: []
      ∧ (given (faulted identity) 0x90000000#32).fault = true
      ∧ (resetting (faulted identity) Config.cfg).fault = true
      ∧ step (resetting (faulted identity) Config.cfg) = .next (after (resetting (faulted identity) Config.cfg))
      ∧ (after (resetting (faulted identity) Config.cfg)).fault = false :=
  ⟨by decide, by decide, by decide, rfl, by decide⟩

/-- FaultsArePrecise. -/
theorem witness_FaultsArePrecise :
    (given identity 0x30000000#32).inbox = .command 0x30000000#32 :: []
      ∧ step (given identity 0x30000000#32) = .next (after (given identity 0x30000000#32))
      ∧ (given identity 0x30000000#32).fault = false ∧ (after (given identity 0x30000000#32)).fault = true :=
  ⟨by decide, rfl, by decide, by decide⟩

/-- ChecksOfACommandWordInOrder: checks (1), (2) and (3), and a command none of them stops. -/
theorem witness_Checks_first_three :
    (faulted identity).fault = true
      ∧ identity.fault = false ∧ decode 0x20010000#32 = .error .pairZero
      ∧ decode 0x20000000#32 = .ok (.pair 0 0) ∧ legalIn (.pair 0 0) identity.inCall = false
      ∧ decode 0x80000000#32 = .ok .rdovc ∧ legalIn .rdovc identity.inCall = true := by decide

/-- ChecksOfACommandWordInOrder: checks (4) and (5), and a PAIR that passes them all: one that emits into the last
free place, and one that finds the buffer full and does not emit. -/
theorem witness_Checks_of_pair :
    (inACall identity 0).inCall = true
      ∧ ({ inACall identity 0 with npairs := maxPairs } : State).npairs.toNat = 2 ^ 31 - 1
      ∧ (∀ g ∈ (inACall identity 0).stages, g.need = 1) ∧ (inACall identity 0).outLen = (inACall identity 0).cap
      ∧ (inACall identity 0).npairs.toNat ≠ 2 ^ 31 - 1
      ∧ ¬ ((∀ g ∈ (inACall identity 1).stages, g.need = 1) ∧ (inACall identity 1).outLen = (inACall identity 1).cap)
      ∧ ¬ ((∀ g ∈ (inACall average 0).stages, g.need = 1) ∧ (inACall average 0).outLen = (inACall average 0).cap) := by
  decide

/-- LegalityTable. -/
theorem witness_LegalityTable :
    identity.fault = false ∧ legalIn .endCall identity.inCall = false ∧ legalIn .rdmi identity.inCall = true
      ∧ legalIn .rdmi (inACall identity 1).inCall = false ∧ (faulted identity).fault = true := by decide

/-- IllegalWordRaisesIllegalCommand, in a call. -/
theorem witness_IllegalWord :
    (given (inACall identity 1) 0x30000001#32).inbox = .command 0x30000001#32 :: []
      ∧ decode 0x30000001#32 = .error .operand ∧ (given (inACall identity 1) 0x30000001#32).fault = false := by decide

/-- NopAnswersOk, BeginOpensACall and the accessors' results: IDLE, IN_CALL and FAULTED. -/
theorem witness_phases :
    identity.fault = false ∧ identity.inCall = false ∧ (inACall identity 1).fault = false
      ∧ (inACall identity 1).inCall = true ∧ (faulted identity).fault = true := by decide

/-- EndWritesTheMeans (with pairs, and with no call open) and EndOfAnEmptyCallLeavesTheMeansOpen. -/
theorem witness_End :
    ({ inACall identity 1 with npairs := 1 } : State).fault = false
      ∧ ({ inACall identity 1 with npairs := 1 } : State).inCall = true
      ∧ ({ inACall identity 1 with npairs := 1 } : State).npairs ≠ 0
      ∧ identity.fault = false ∧ identity.inCall = false
      ∧ (inACall identity 1).fault = false ∧ (inACall identity 1).inCall = true ∧ (inACall identity 1).npairs = 0 := by
  decide

/-- PairPerformsTheBody, one pair below the longest call. -/
theorem witness_PairPerformsTheBody :
    ({ inACall identity 1 with npairs := maxPairs - 1 } : State).fault = false
      ∧ ({ inACall identity 1 with npairs := maxPairs - 1 } : State).inCall = true
      ∧ ({ inACall identity 1 with npairs := maxPairs - 1 } : State).npairs.toNat ≠ 2 ^ 31 - 1
      ∧ ¬ ((∀ g ∈ (inACall identity 1).stages, g.need = 1)
          ∧ (inACall identity 1).outLen = (inACall identity 1).cap) := by decide

/-- ClipSetsTheFlagAndCountsThePair: a pair that clips in Q only and one that does not clip. -/
theorem witness_Clip :
    exec (.pair 10 255) (inACall identity 1) = .next (after (given (inACall identity 1) 0x2000FF0A#32))
      ∧ (after (given (inACall identity 1) 0x2000FF0A#32)).fault = false
      ∧ ((10 : Byte) = 0 ∨ (10 : Byte) = 255 ∨ (255 : Byte) = 0 ∨ (255 : Byte) = 255)
      ∧ exec (.pair 1 254) (inACall identity 1) = .next (after (given (inACall identity 1) 0x2000FE01#32))
      ∧ (after (given (inACall identity 1) 0x2000FE01#32)).fault = false
      ∧ ¬ ((1 : Byte) = 0 ∨ (1 : Byte) = 255 ∨ (254 : Byte) = 0 ∨ (254 : Byte) = 255) :=
  ⟨rfl, by decide, by decide, rfl, by decide, by decide⟩

/-- PairIntoAFullBufferRaisesOutputCapacity, at the largest capacity. -/
theorem witness_PairIntoAFullBuffer :
    ({ inACall identity 0xFFFFFF with outLen := 0xFFFFFF } : State).fault = false
      ∧ ({ inACall identity 0xFFFFFF with outLen := 0xFFFFFF } : State).inCall = true
      ∧ ({ inACall identity 0xFFFFFF with outLen := 0xFFFFFF } : State).npairs.toNat ≠ 2 ^ 31 - 1
      ∧ (∀ g ∈ ({ inACall identity 0xFFFFFF with outLen := 0xFFFFFF } : State).stages, g.need = 1)
      ∧ ({ inACall identity 0xFFFFFF with outLen := 0xFFFFFF } : State).outLen =
          ({ inACall identity 0xFFFFFF with outLen := 0xFFFFFF } : State).cap := by decide

/-- PairBeyondTheCountRaisesCallTooLong. -/
theorem witness_PairBeyondTheCount :
    ({ inACall identity 0 with npairs := maxPairs } : State).fault = false
      ∧ ({ inACall identity 0 with npairs := maxPairs } : State).inCall = true
      ∧ ({ inACall identity 0 with npairs := maxPairs } : State).npairs.toNat = 2 ^ 31 - 1 := by decide

/-- ChainIsAShortCircuit, EmissionIsGatedByNeedAlone: a stage that stalls before one that waits, and a chain that
emits. -/
theorem witness_Chain :
    (∀ g ∈ State.reset.stages, 1 ≤ g.need)
      ∧ (∃ h ∈ State.reset.stages.take 1, h.need ≠ 1) ∧ State.reset.stages[1]?.isSome = true
      ∧ (∀ h ∈ State.reset.stages.take 0, h.need = 1) ∧ State.reset.stages[0]?.isSome = true
      ∧ (∀ g ∈ identity.stages, 1 ≤ g.need) ∧ (chain numerics identity.stages x1).2 = some x1 := by decide

/-- EmissionSchedule: after 14 pairs of the boundary scenario the next one emits. -/
theorem witness_EmissionSchedule :
    (∀ g ∈ State.reset.stages, 1 ≤ g.period ∧ 1 ≤ g.size)
      ∧ countedBy 0 State.reset.stages = true
      ∧ countedBy 14
          [{ Stage.fresh ⟨5, List.replicate 5 c02⟩ with wpos := 4, need := 1 },
           { Stage.fresh ⟨3, List.replicate 3 c02⟩ with wpos := 2, need := 1 }] = true
      ∧ Cfg.total (State.reset.stages.map (·.cfg)) ∣ 14 + 1 := by decide

/-- RealLaneIgnoresTheImaginaryLane: the imaginary lanes differ. -/
theorem witness_RealLane :
    [stage23.acceptAll [x1]].map (fun g => (g.cfg, g.wpos, g.need, g.ring.map C32.re))
        = [stage23.acceptAll [⟨x1.re, 0x3F800000#32⟩]].map (fun g => (g.cfg, g.wpos, g.need, g.ring.map C32.re))
      ∧ stage23.acceptAll [x1] ≠ stage23.acceptAll [⟨x1.re, 0x3F800000#32⟩]
      ∧ x2.re = (⟨x2.re, 0x00000000#32⟩ : C32).re := by decide

/-- ImaginaryLaneIgnoresTheRealLane: the real lanes differ. -/
theorem witness_ImaginaryLane :
    [stage23.acceptAll [x1]].map (fun g => (g.cfg, g.wpos, g.need, g.ring.map C32.im))
        = [stage23.acceptAll [⟨0x3F800000#32, x1.im⟩]].map (fun g => (g.cfg, g.wpos, g.need, g.ring.map C32.im))
      ∧ stage23.acceptAll [x1] ≠ stage23.acceptAll [⟨0x3F800000#32, x1.im⟩]
      ∧ x2.im = (⟨0x00000000#32, x2.im⟩ : C32).im := by decide

/-- StageAddStoresAdvancesAndCounts, WindowSlidesByOne: the first slot, and the last with the countdown at 1. -/
theorem witness_StageAdd :
    stage23.Wf ∧ ({ stage23 with wpos := 2, need := 1 } : Stage).Wf := by decide

/-- StageCountersAfterManySamples, ClosedFormOfAStage: the least factor and tap count, and larger ones. -/
theorem witness_StageCounters :
    (1 ≤ (⟨1, [c02]⟩ : StageCfg).factor ∧ 1 ≤ (⟨1, [c02]⟩ : StageCfg).taps.length)
      ∧ 1 ≤ stage23.cfg.factor ∧ 1 ≤ stage23.cfg.taps.length
      ∧ stage23.cfg.factor ∣ [x1].length + 1 ∧ ¬ stage23.cfg.factor ∣ [x1, x2].length + 1 := by decide

/-- IdentityStageReturnsItsSample, with a lane at `-0.0` and one at an infinity. -/
theorem witness_IdentityStage :
    (Stage.fresh ⟨1, [0x3F800000#32]⟩).Wf ∧ (Stage.fresh ⟨1, [0x3F800000#32]⟩).cfg = ⟨1, [0x3F800000#32]⟩
      ∧ F32.isNan 0x80000000#32 = false ∧ F32.isNan 0x7F800000#32 = false := by decide

theorem below_of_pos (t : Nat) (h : 0 < t) : t - 1 < t * 1 := by omega

/-- RoundingIsToNearestEven: at the overflow threshold, just below it, and at a tie. -/
theorem witness_Rounding :
    0 < 1 ∧ (2 ^ 277 - 2 ^ 252) * 1 ≤ 2 ^ 277 - 2 ^ 252 ∧ 2 ^ 277 - 2 ^ 252 - 1 < (2 ^ 277 - 2 ^ 252) * 1
      ∧ ((F32.units (BitVec.ofNat 32 (roundMag 3 2)) * 2 : Int) - 3).natAbs
          = ((F32.units (BitVec.ofNat 32 1) * 2 : Int) - 3).natAbs
      ∧ 1 ≠ roundMag 3 2 :=
  ⟨by decide, by rw [Nat.mul_one],
    below_of_pos _ (Nat.sub_pos_of_lt (Nat.pow_lt_pow_right (by decide) (by decide))),
    by decide, by decide⟩

/-- AdditionCommutes. -/
theorem witness_AdditionCommutes : F32.isNan (fadd 0xFF800000#32 0x3F800000#32) = false := by decide

/-- ForcedNansAreQuiet, each clause. -/
theorem witness_ForcedNans :
    F32.isNan 0x7F800001#32 = true ∧ F32.isInf 0x7F800000#32 = true ∧ F32.isInf 0xFF800000#32 = true
      ∧ F32.neg 0x7F800000#32 ≠ F32.neg 0xFF800000#32 ∧ F32.isZero 0x80000000#32 = true
      ∧ F32.isZero 0x00000000#32 = true := by decide

/-- ConversionIsExactOnTwentyFourBits, at its largest values. -/
theorem witness_Conversion :
    2 ^ 24 ≤ 2 ^ 24 ∧ 2 ^ 24 * 2 ^ 7 < 2 ^ 32 ∧ 2 ^ 24 - 1 ≤ 2 ^ 24 ∧ (2 ^ 24 - 1) * 2 ^ 8 < 2 ^ 32 := by decide

/-- NormTableProperties, the clause on the order, at both ends. -/
theorem witness_NormTable : (0#8).toNat < 255 ∧ (254#8).toNat < 255 ∧ ¬ (255#8).toNat < 255 := by decide

/-- RegistersAreWrittenOnlyByTheirCommands: a command of every kind completes. -/
theorem witness_Registers :
    exec .nop identity = .next (identity.answer [])
      ∧ exec .rdovl identity = .next (after (given identity 0x70000000#32))
      ∧ exec (.pair 1 2) (inACall identity 1) = .next (after (given (inACall identity 1) 0x20000201#32)) :=
  ⟨rfl, rfl, rfl⟩

/-- PairFrame: a stage whose ring has slots that PAIR does not write, and a flag that is set. -/
theorem witness_PairFrame :
    exec (.pair 1 2) (inACall { average with ovl := true } 1)
        = .next (after (given (inACall { average with ovl := true } 1) 0x20000201#32))
      ∧ (inACall { average with ovl := true } 1).stages[0]? = average.stages[0]?
      ∧ average.stages[0]?.isSome = true ∧ 1 ≠ 0 ∧ average.stages.map (·.wpos) = [0] :=
  ⟨rfl, by decide, by decide, by decide, by decide⟩

/-- ConfigurationIsNeverWritten. -/
theorem witness_Configuration : step identity = .next identity := rfl

/-- ResetConstructsEveryElement, in a call. -/
theorem witness_Reset :
    (resetting (inACall identity 1) Config.cfg).inbox = .reset Config.cfg :: [] ∧ Cfg.valid Config.cfg = true := by
  decide

/-- InvalidConfigurationIsRejectedAtReset, each clause. -/
theorem witness_InvalidConfiguration :
    (resetting identity [⟨0, []⟩]).inbox = .reset [⟨0, []⟩] :: [] ∧ Cfg.valid [⟨0, []⟩] = false
      ∧ (resetting identity []).inbox = .reset [] :: []
      ∧ ([⟨1, [c02]⟩, ⟨0, []⟩] : Cfg) = [⟨1, [c02]⟩] ++ ⟨0, []⟩ :: []
      ∧ (∀ d ∈ ([⟨1, [c02]⟩] : Cfg), d.factor ≠ 0 ∧ d.taps ≠ []) ∧ (⟨1, []⟩ : StageCfg).factor ≠ 0
      ∧ ([⟨4294967296, [c02]⟩] : Cfg) ≠ []
      ∧ (∀ d ∈ ([⟨4294967296, [c02]⟩] : Cfg), d.factor ≠ 0 ∧ d.taps ≠ [])
      ∧ (∃ d ∈ ([⟨4294967296, [c02]⟩] : Cfg), d.factor > 2 ^ 32 - 1 ∨ d.taps.length > 2 ^ 32 - 1)
      ∧ Cfg.total [⟨65536, [c02]⟩, ⟨65536, [c02]⟩] > 2 ^ 32 - 1 := by decide

/-- ShapeIsKeptByEveryStep: in a call with a full buffer, given a PAIR; and FAULTED with an invalid configuration. -/
theorem witness_Shape :
    (given (inACall identity 0) 0x20000000#32).Inv
      ∧ step (given (inACall identity 0) 0x20000000#32) = .next (after (given (inACall identity 0) 0x20000000#32))
      ∧ (State.construct [] 0).Inv :=
  ⟨by decide, rfl, by decide⟩

/-- CountingLawsAreKeptByEveryStep: a PAIR, a reset event with a valid configuration, and a PAIR that faults. -/
theorem witness_CountingLaws :
    (given (inACall average 1) 0x20000201#32).Inv ∧ (given (inACall average 1) 0x20000201#32).validCfg
      ∧ countedBy 0 (given (inACall average 1) 0x20000201#32).stages = true
      ∧ decode 0x20000201#32 = .ok (.pair 1 2) ∧ (after (given (inACall average 1) 0x20000201#32)).fault = false
      ∧ (resetting average Config.cfg).Inv ∧ Cfg.valid Config.cfg = true
      ∧ (given average 0x20000201#32).Inv ∧ (after (given average 0x20000201#32)).fault = true :=
  ⟨by decide, by decide, by decide, by decide, by decide, by decide, by decide, by decide, by decide⟩

/-- RunningSumsStayBounded: the sum has reached `2^24`. -/
theorem witness_RunningSums :
    (given { inACall identity 1 with npairs := 16777216, sumI := 0x4B800000#32 } 0x20000201#32).fault = false
      ∧ sumBounded (16777216#31).toNat 0x4B800000#32 ∧ sumBounded (16777216#31).toNat 0x00000000#32
      ∧ (after (given { inACall identity 1 with npairs := 16777216, sumI := 0x4B800000#32 } 0x20000201#32)).fault
          = false := by decide

/-- CrossCallContinuity: two pairs, cut after the first, and uncut. -/
theorem witness_CrossCall :
    (runCommands [.pair 1 2, .endCall, .beginCall 1, .pair 3 4] (inACall average 1)).fault = false
      ∧ (runCommands [.pair 1 2, .pair 3 4] (inACall average 1)).fault = false := by decide

/-- OddLengthIsRefusedByTheDriver. -/
theorem witness_OddLength : ([0, 128, 255] : List Byte).length % 2 = 1 := by decide

/-- DecimateEmitsTheScheduledSamples: two pairs into one place, and an empty call. -/
theorem witness_Decimate :
    average.Inv ∧ average.validCfg ∧ average.phase = .idle ∧ countedBy 0 average.stages = true
      ∧ ([1, 2, 3, 4] : List Byte).length = 2 * 2 ∧ emissionCount average.cfg 0 2 ≤ (1#24).toNat
      ∧ ([] : List Byte).length = 2 * 0 ∧ emissionCount average.cfg 0 0 ≤ (0#24).toNat := by decide

/-- DecimateBeyondTheCapacityFaults: 95_test_vectors.md T-P7(a). -/
theorem witness_DecimateBeyond :
    average.Inv ∧ average.validCfg ∧ average.phase = .idle ∧ countedBy 0 average.stages = true
      ∧ ([1, 2, 3, 4, 5, 6, 7, 8] : List Byte).length = 2 * 4 ∧ (1#24).toNat < emissionCount average.cfg 0 4 := by
  decide

end Sys2Proof.Tests
end

section
/-!
SUPPORT. What one step can do, and where it ends: every command answers a next state, so does every step
(00_scope.md R14, R18).
-/

namespace Sys2Proof.Machine

/-- Every command answers a next state: its faults are states (R18). -/
theorem exec_answersNext (i : Instr) (s : State) : ∃ t, exec i s = .next t := by
  cases i <;> exact ⟨_, rfl⟩

/-- What a step can do, by the oldest input: hold the state, construct it anew, perform a legal command, or answer an
illegal word. -/
theorem step_cases {s t : State} (h : step s = .next t) :
    (s.inbox = [] ∧ t = s)
      ∨ (∃ cfg rest, s.inbox = .reset cfg :: rest ∧ t = s.hostReset cfg)
      ∨ (∃ w rest i, s.inbox = .command w :: rest ∧ decode w = .ok i ∧ exec i s = .next t)
      ∨ (∃ w rest e, s.inbox = .command w :: rest ∧ decode w = .error e ∧ t = s.illegalWord) := by
  match hin : s.inbox with
  | [] =>
    rw [step_empty hin] at h
    exact .inl ⟨rfl, (Host.Outcome.next.inj h).symm⟩
  | .reset cfg :: rest =>
    rw [step_reset hin] at h
    exact .inr (.inl ⟨cfg, rest, rfl, (Host.Outcome.next.inj h).symm⟩)
  | .command w :: rest =>
    match hd : decode w with
    | .ok i =>
      rw [step_legal hin hd] at h
      exact .inr (.inr (.inl ⟨w, rest, i, rfl, hd, h⟩))
    | .error e =>
      rw [step_illegal hin hd] at h
      exact .inr (.inr (.inr ⟨w, rest, e, rfl, hd, (Host.Outcome.next.inj h).symm⟩))

/-- Settles O7, by the law of a step with a legal word on the port. -/
theorem stepPerformsTheNextCommand : Obligations.StepPerformsTheNextCommand :=
  fun _ _ _ _ hin hd => step_legal hin hd

/-- Settles O8, by the oldest input; a legal word is a command, and every command answers a next state. -/
theorem everyStepAnswersANextState : Obligations.EveryStepAnswersANextState := by
  intro s
  match hin : s.inbox with
  | [] => exact ⟨_, step_empty hin⟩
  | .reset cfg :: _ => exact ⟨_, step_reset hin⟩
  | .command w :: _ =>
    match hd : decode w with
    | .ok i =>
      obtain ⟨t, ht⟩ := exec_answersNext i s
      exact ⟨t, (step_legal hin hd).trans ht⟩
    | .error _ => exact ⟨_, step_illegal hin hd⟩

end Sys2Proof.Machine
end

section
/-!
SUPPORT. Which operations leave the configuration as it is, and which one the reset event brings (00_scope.md R5,
20_memory.md R53, 70_reset_and_hazards.md R200).
-/

namespace Sys2Proof.Machine

/-! Faults and the checks that come first. -/

@[simp] theorem State.answerFaulted_cfg (s : State) : s.answerFaulted.cfg = s.cfg := rfl

@[simp] theorem State.raise_cfg (s : State) (c : Cause) : (s.raise c).cfg = s.cfg := rfl

theorem State.unlessFaulted_cfg {s : State} {body : State → State} (hb : (body s).cfg = s.cfg) :
    (s.unlessFaulted body).cfg = s.cfg := by
  unfold State.unlessFaulted
  split
  · rfl
  · exact hb

@[simp] theorem State.illegalWord_cfg (s : State) : s.illegalWord.cfg = s.cfg :=
  State.unlessFaulted_cfg rfl

theorem State.whenIdle_cfg {s : State} {body : State → State} (hb : (body s).cfg = s.cfg) :
    (s.whenIdle body).cfg = s.cfg := by
  obtain ⟨-, h⟩ | ⟨-, -, h⟩ | ⟨-, -, h⟩ := s.whenIdle_cases body <;> simp [h, hb]

theorem State.whenInCall_cfg {s : State} {body : State → State} (hb : (body s).cfg = s.cfg) :
    (s.whenInCall body).cfg = s.cfg := by
  obtain ⟨-, h⟩ | ⟨-, -, h⟩ | ⟨-, -, h⟩ := s.whenInCall_cases body <;> simp [h, hb]

/-! PAIR, the one command that writes stages. -/

/-- The chain writes stages, and no stage's constants. -/
theorem chain_map_cfg (nu : Numerics) (gs : List Stage) (x : C32) :
    (chain nu gs x).1.map (·.cfg) = gs.map (·.cfg) := by
  induction gs generalizing x with
  | nil => rfl
  | cons g gs ih =>
    rcases hr : (stgAdd g x).2 with _ | _
    · simp [chain_cons_stall hr]
    · simp [chain_cons_ready hr, ih]

theorem State.pairBody_stages (s : State) (nu : Numerics) (i q : Byte) :
    (s.pairBody nu i q).stages = (chain nu s.stages (normalize nu i q)).1 := by
  rcases hc : (chain nu s.stages (normalize nu i q)).2 with _ | y
  · simp [State.pairBody_stall hc]
  · simp [State.pairBody_emit hc]

theorem State.pairBody_cfg (s : State) (nu : Numerics) (i q : Byte) : (s.pairBody nu i q).cfg = s.cfg := by
  simp only [State.cfg, State.pairBody_stages, chain_map_cfg]

theorem State.pairChecked_cfg (s : State) (nu : Numerics) (i q : Byte) :
    (s.pairChecked nu i q).cfg = s.cfg := by
  obtain ⟨-, h⟩ | ⟨-, -, h⟩ | ⟨-, -, h⟩ := s.pairChecked_cases nu i q <;> simp [h, State.pairBody_cfg]

/-- No command writes the configuration (R53). -/
theorem exec_cfg {i : Instr} {s t : State} (h : exec i s = .next t) : t.cfg = s.cfg := by
  cases i with
  | nop =>
    obtain rfl := Host.Outcome.next.inj h
    exact State.unlessFaulted_cfg rfl
  | pair a b =>
    obtain rfl := Host.Outcome.next.inj h
    exact State.whenInCall_cfg (s.pairChecked_cfg numerics a b)
  | endCall =>
    obtain rfl := Host.Outcome.next.inj h
    exact State.whenInCall_cfg (by simp [State.cfg])
  | beginCall _ | rdtot | rdmi | rdmq | rdovl | rdovc =>
    obtain rfl := Host.Outcome.next.inj h
    exact State.whenIdle_cfg rfl

/-! The reset event. -/

/-- Construction takes the configuration it is given, valid or not. -/
theorem State.construct_cfg (cfg : Cfg) (draws : Nat) : (State.construct cfg draws).cfg = cfg := by
  unfold State.construct
  split
  · simp [State.cfg, State.fresh, Stage.fresh, Function.comp_def]
  · exact List.ext_getElem (by simp [State.cfg, State.rejected])
      (by simp [State.cfg, State.rejected, Stage.unspecified])

theorem State.hostReset_cfg (s : State) (cfg : Cfg) : (s.hostReset cfg).cfg = cfg :=
  State.construct_cfg cfg s.draws

/-- Settles O48, by what a step can do: only the reset event brings a configuration; `TOTAL` is computed from it. -/
theorem configurationIsNeverWritten : Obligations.ConfigurationIsNeverWritten := by
  intro s t h
  suffices hcfg : t.cfg = s.cfg ∨ ∃ cfg rest, s.inbox = .reset cfg :: rest ∧ t.cfg = cfg from
    hcfg.imp_left fun he => ⟨he, congrArg Cfg.total he⟩
  obtain ⟨-, rfl⟩ | ⟨cfg, rest, hin, rfl⟩ | ⟨_, _, _, -, -, hex⟩ | ⟨_, _, _, -, -, rfl⟩ := step_cases h
  · exact .inl rfl
  · exact .inr ⟨cfg, rest, hin, s.hostReset_cfg cfg⟩
  · exact .inl (exec_cfg hex)
  · exact .inl s.illegalWord_cfg

end Sys2Proof.Machine
end

section
/-!
SUPPORT. What a command can do, said once: a FAULTED block answers its cause, a check raises a fault, or the command is
performed (60_exceptions.md R170, R174, R178).
-/

namespace Sys2Proof.Machine

/-- The effect of each command that no check stops, with the checks it has passed (R174, R140). -/
inductive Performed (s : State) : Instr → State → Prop where
  | nop : Performed s .nop (s.answer [])
  | beginCall (cap : BitVec 24) (idle : s.inCall = false) :
      Performed s (.beginCall cap)
        (State.answer
          { s with sumI := 0#32, sumQ := 0#32, npairs := 0#31, outLen := 0#24, cap := cap, inCall := true } [])
  | pair (i q : Byte) (calling : s.inCall = true) (room : s.npairs ≠ maxPairs)
      (fits : s.wouldEmit = true → s.outLen ≠ s.cap) : Performed s (.pair i q) (s.pairBody numerics i q)
  | endCall (calling : s.inCall = true) :
      Performed s .endCall (State.answer { s.writeMeans numerics with inCall := false } [s.outLen.zeroExtend 32])
  | rdtot (idle : s.inCall = false) : Performed s .rdtot (s.answer [BitVec.ofNat 32 s.total])
  | rdmi (idle : s.inCall = false) : Performed s .rdmi (s.answer [s.meanI])
  | rdmq (idle : s.inCall = false) : Performed s .rdmq (s.answer [s.meanQ])
  | rdovl (idle : s.inCall = false) : Performed s .rdovl (State.answer { s with ovl := false } [zextBit s.ovl])
  | rdovc (idle : s.inCall = false) : Performed s .rdovc (State.answer { s with ovc := 0#32 } [s.ovc])

/-- The three ends of a command from `s` to `t`: the block is FAULTED, the command faults, or it is performed. -/
abbrev State.Ended (s : State) (i : Instr) (t : State) : Prop :=
  (s.fault = true ∧ t = s.answerFaulted)
    ∨ (s.fault = false ∧ ∃ c, t = s.raise c)
    ∨ (s.fault = false ∧ Performed s i t)

theorem State.whenIdle_ended {s : State} {i : Instr} {body : State → State}
    (hb : s.inCall = false → Performed s i (body s)) : s.Ended i (s.whenIdle body) := by
  obtain ⟨hf, h⟩ | ⟨hf, -, h⟩ | ⟨hf, hc, h⟩ := s.whenIdle_cases body
  · exact .inl ⟨hf, h⟩
  · exact .inr (.inl ⟨hf, _, h⟩)
  · exact .inr (.inr ⟨hf, h ▸ hb hc⟩)

theorem State.whenInCall_ended {s : State} {i : Instr} {body : State → State}
    (hb : s.inCall = true → (∃ c, body s = s.raise c) ∨ Performed s i (body s)) :
    s.Ended i (s.whenInCall body) := by
  obtain ⟨hf, h⟩ | ⟨hf, -, h⟩ | ⟨hf, hc, h⟩ := s.whenInCall_cases body
  · exact .inl ⟨hf, h⟩
  · exact .inr (.inl ⟨hf, _, h⟩)
  · exact .inr ((h ▸ hb hc).imp (⟨hf, ·⟩) (⟨hf, ·⟩))

theorem State.pairChecked_raises_or_performs {s : State} (hc : s.inCall = true) (i q : Byte) :
    (∃ c, s.pairChecked numerics i q = s.raise c) ∨ Performed s (.pair i q) (s.pairChecked numerics i q) := by
  obtain ⟨-, h⟩ | ⟨-, -, h⟩ | ⟨hn, he, h⟩ := s.pairChecked_cases numerics i q
  · exact .inl ⟨_, h⟩
  · exact .inl ⟨_, h⟩
  · exact .inr (h ▸ .pair i q hc hn (by simpa using he))

/-- Every command ends in one of the three ways. -/
theorem exec_cases {i : Instr} {s t : State} (h : exec i s = .next t) : s.Ended i t := by
  cases i <;> obtain rfl := Host.Outcome.next.inj h
  case nop =>
    rcases hf : s.fault with _ | _
    · exact .inr (.inr ⟨hf, State.unlessFaulted_of_running hf _ ▸ .nop⟩)
    · exact .inl ⟨hf, State.unlessFaulted_of_faulted hf _⟩
  case beginCall cap => exact State.whenIdle_ended (.beginCall cap)
  case pair i q => exact State.whenInCall_ended (State.pairChecked_raises_or_performs · i q)
  case endCall => exact State.whenInCall_ended fun hc => .inr (.endCall hc)
  case rdtot => exact State.whenIdle_ended .rdtot
  case rdmi => exact State.whenIdle_ended .rdmi
  case rdmq => exact State.whenIdle_ended .rdmq
  case rdovl => exact State.whenIdle_ended .rdovl
  case rdovc => exact State.whenIdle_ended .rdovc

/-- An illegal word is answered by a FAULTED block, and faults any other (R173). -/
theorem State.illegalWord_cases (s : State) :
    (s.fault = true ∧ s.illegalWord = s.answerFaulted)
      ∨ (s.fault = false ∧ s.illegalWord = s.raise .illegalCommand) := by
  rcases hf : s.fault with _ | _
  · exact .inr ⟨rfl, State.unlessFaulted_of_running hf _⟩
  · exact .inl ⟨rfl, State.unlessFaulted_of_faulted hf _⟩

@[simp] theorem State.illegalWord_stages (s : State) : s.illegalWord.stages = s.stages := by
  obtain ⟨-, h⟩ | ⟨-, h⟩ := s.illegalWord_cases <;> simp [h]

/-! What the body of PAIR leaves in the registers, whatever the chain gives (R141). -/

section
variable (s : State) (nu : Numerics) (i q : Byte)

@[simp] theorem State.pairBody_meanI : (s.pairBody nu i q).meanI = s.meanI := by
  unfold State.pairBody; dsimp only; split <;> simp
@[simp] theorem State.pairBody_meanQ : (s.pairBody nu i q).meanQ = s.meanQ := by
  unfold State.pairBody; dsimp only; split <;> simp
@[simp] theorem State.pairBody_draws : (s.pairBody nu i q).draws = s.draws := by
  unfold State.pairBody; dsimp only; split <;> simp
@[simp] theorem State.pairBody_cap : (s.pairBody nu i q).cap = s.cap := by
  unfold State.pairBody; dsimp only; split <;> simp
@[simp] theorem State.pairBody_inCall : (s.pairBody nu i q).inCall = s.inCall := by
  unfold State.pairBody; dsimp only; split <;> simp
@[simp] theorem State.pairBody_fault : (s.pairBody nu i q).fault = s.fault := by
  unfold State.pairBody; dsimp only; split <;> simp
@[simp] theorem State.pairBody_cause : (s.pairBody nu i q).cause = s.cause := by
  unfold State.pairBody; dsimp only; split <;> simp
theorem State.pairBody_outLen :
    (s.pairBody nu i q).outLen =
      if (chain nu s.stages (normalize nu i q)).2.isSome then s.outLen + 1#24 else s.outLen := by
  unfold State.pairBody; dsimp only; split <;> simp_all

end

/-- Settles O46, by the three ends of a command: two write `fault`, `cause` and the ports only, and each command that
is performed writes the registers of its rule. -/
theorem registersAreWrittenOnlyByTheirCommands : Obligations.RegistersAreWrittenOnlyByTheirCommands := by
  intro i s t h
  obtain ⟨-, rfl⟩ | ⟨-, c, rfl⟩ | ⟨-, hp⟩ := exec_cases h
  · simp
  · simp
  · cases hp <;> simp

end Sys2Proof.Machine
end

section
/-!
SUPPORT. The configuration check of the reset event refuses exactly the invalid configurations, and what construction
then leaves (60_exceptions.md R172, 70_reset_and_hazards.md R200, R201).
-/

namespace Sys2Proof.Machine

/-- R6, clause by clause. -/
theorem Cfg.valid_iff (cfg : Cfg) :
    Cfg.valid cfg = true ↔
      cfg ≠ [] ∧ (∀ c ∈ cfg, 1 ≤ c.factor ∧ 1 ≤ c.taps.length)
        ∧ (∀ c ∈ cfg, c.factor ≤ maxParam ∧ c.taps.length ≤ maxParam) ∧ Cfg.total cfg ≤ maxParam := by
  simp only [Cfg.valid, Bool.and_eq_true, Bool.not_eq_true', List.isEmpty_eq_false_iff, List.all_eq_true,
    decide_eq_true_eq, and_assoc]

/-- Check (2) of R172 passes iff every stage has a factor and taps. -/
theorem stageCause_eq_none_iff (cfg : Cfg) :
    stageCause cfg = none ↔ ∀ c ∈ cfg, 1 ≤ c.factor ∧ 1 ≤ c.taps.length := by
  induction cfg with
  | nil => simp [stageCause]
  | cons c cs ih =>
    rw [List.forall_mem_cons, ← ih, stageCause]
    split
    · simp only [reduceCtorEq, false_iff]; omega
    · split
      · simp only [reduceCtorEq, false_iff]; omega
      · exact (and_iff_right (by omega)).symm

/-- Check (3) of R172 passes iff the width bounds hold. -/
theorem outOfRange_eq_false_iff (cfg : Cfg) :
    outOfRange cfg = false ↔
      (∀ c ∈ cfg, c.factor ≤ maxParam ∧ c.taps.length ≤ maxParam) ∧ Cfg.total cfg ≤ maxParam := by
  simp [outOfRange]

/-- The checks of R172 refuse exactly the configurations that R6 calls invalid. -/
theorem cfgCause_eq_none_iff (cfg : Cfg) : cfgCause cfg = none ↔ Cfg.valid cfg = true := by
  rw [Cfg.valid_iff, ← stageCause_eq_none_iff, ← outOfRange_eq_false_iff, cfgCause]
  rcases cfg with _ | ⟨c, cs⟩
  · simp
  · rcases hs : stageCause (c :: cs) with _ | _ <;> simp

theorem State.construct_validCfg_iff (cfg : Cfg) (draws : Nat) :
    (State.construct cfg draws).validCfg ↔ Cfg.valid cfg = true := by
  rw [State.validCfg, State.construct_cfg]

theorem State.construct_valid {cfg : Cfg} (h : Cfg.valid cfg = true) (draws : Nat) :
    State.construct cfg draws = State.fresh cfg draws := by
  simp [State.construct, (cfgCause_eq_none_iff cfg).2 h]

theorem State.construct_invalid {cfg : Cfg} (h : ¬ Cfg.valid cfg = true) (draws : Nat) :
    ∃ c, State.construct cfg draws = State.rejected cfg c draws := by
  obtain ⟨c, hc⟩ := Option.ne_none_iff_exists'.1 (mt (cfgCause_eq_none_iff cfg).1 h)
  exact ⟨c, by simp [State.construct, hc]⟩

end Sys2Proof.Machine
end

section
/-!
SUPPORT. The shape of the state, R39(a) to (e): every operation keeps it.
-/

namespace Sys2Proof.Machine

theorem Stage.need_pos_of_wf {g : Stage} (h : g.Wf) : 1 ≤ g.need := by
  obtain ⟨-, -, hneed, -⟩ := h
  exact hneed

theorem Stage.period_size_pos_of_wf {g : Stage} (h : g.Wf) : 1 ≤ g.period ∧ 1 ≤ g.size := by
  obtain ⟨-, hw, hneed, hle⟩ := h
  exact ⟨hneed.trans hle, Nat.one_le_of_lt hw⟩

/-- For a block that is not FAULTED, the shape in plain terms. -/
theorem State.inv_iff_of_running {s : State} (hf : s.fault = false) :
    s.Inv ↔ s.validCfg ∧ s.cause = 0x00#8 ∧ (∀ g ∈ s.stages, g.Wf) ∧ (s.inCall = true → s.outLen ≤ s.cap) := by
  simp only [State.Inv, hf, forall_const, Bool.false_eq_true, imp_false, not_not]
  constructor
  · rintro ⟨hcause, hshape, hv⟩
    exact ⟨hv, hcause, hshape hv⟩
  · rintro ⟨hv, hcause, hshape⟩
    exact ⟨hcause, fun _ => hshape, hv⟩

theorem State.raise_inv {s : State} (hi : s.Inv) (c : Cause) : (s.raise c).Inv := by
  obtain ⟨-, hshape, -⟩ := hi
  exact ⟨by simp, hshape, fun _ => rfl⟩

theorem State.illegalWord_inv {s : State} (hi : s.Inv) : s.illegalWord.Inv := by
  obtain ⟨-, h⟩ | ⟨-, h⟩ := s.illegalWord_cases <;> rw [h]
  · exact hi
  · exact State.raise_inv hi _

/-- The chain writes by STG.ADD only, which keeps the form of a stage. -/
theorem chain_wf {gs : List Stage} (h : ∀ g ∈ gs, g.Wf) (nu : Numerics) (x : C32) :
    ∀ g ∈ (chain nu gs x).1, g.Wf := by
  induction gs generalizing x with
  | nil => simp [chain]
  | cons g gs ih =>
    obtain ⟨hg, hgs⟩ := List.forall_mem_cons.1 h
    rcases hr : (stgAdd g x).2 with _ | _
    · rw [chain_cons_stall hr]
      exact List.forall_mem_cons.2 ⟨stgAdd_wf hg x, hgs⟩
    · rw [chain_cons_ready hr]
      exact List.forall_mem_cons.2 ⟨stgAdd_wf hg x, ih hgs _⟩

/-- The chain emits iff every countdown stands at 1 (R146). -/
theorem chain_isSome_iff {gs : List Stage} (h : ∀ g ∈ gs, 1 ≤ g.need) (nu : Numerics) (x : C32) :
    (chain nu gs x).2.isSome = true ↔ ∀ g ∈ gs, g.need = 1 := by
  induction gs generalizing x with
  | nil => simp [chain]
  | cons g gs ih =>
    obtain ⟨hg, hgs⟩ := List.forall_mem_cons.1 h
    have hready := stgAdd_ready g x
    by_cases h1 : g.need = 1
    · rw [chain_cons_ready (by simpa [h1] using hready), ih hgs]
      simp [h1]
    · rw [chain_cons_stall (by rw [hready, decide_eq_false (by omega)])]
      simp [h1]

/-- A PAIR that would not overfill the buffer keeps the shape: the emission it makes is the one it checked for
(R140). -/
theorem State.pairBody_inv {s : State} (hf : s.fault = false) (hi : s.Inv)
    (hfits : s.wouldEmit = true → s.outLen ≠ s.cap) (nu : Numerics) (i q : Byte) :
    (s.pairBody nu i q).Inv := by
  obtain ⟨hv, hcause, hwf, hlen⟩ := (State.inv_iff_of_running hf).1 hi
  refine (State.inv_iff_of_running (by simp [hf])).2 ⟨?_, by simp [hcause], ?_, ?_⟩
  · rwa [State.validCfg, State.pairBody_cfg]
  · rw [State.pairBody_stages]
    exact chain_wf hwf nu _
  · intro hc
    have hle := hlen (by simpa using hc)
    rw [State.pairBody_outLen, State.pairBody_cap]
    split
    next hemit =>
      have hneed := (chain_isSome_iff (fun g hg => Stage.need_pos_of_wf (hwf g hg)) nu _).1 hemit
      have hne := hfits (s.wouldEmit_iff.2 hneed)
      bv_omega
    next => exact hle

/-- Every command keeps the shape. -/
theorem exec_inv {i : Instr} {s t : State} (hi : s.Inv) (h : exec i s = .next t) : t.Inv := by
  obtain ⟨-, rfl⟩ | ⟨-, c, rfl⟩ | ⟨hf, hp⟩ := exec_cases h
  · exact hi
  · exact State.raise_inv hi c
  · cases hp with
    | nop | rdtot | rdmi | rdmq | rdovl | rdovc => exact hi
    | beginCall cap =>
      obtain ⟨hv, hcause, hwf, -⟩ := (State.inv_iff_of_running hf).1 hi
      exact (State.inv_iff_of_running (by exact hf)).2 ⟨hv, hcause, hwf, fun _ => Nat.zero_le _⟩
    | pair i q _ _ hfits => exact State.pairBody_inv hf hi hfits numerics i q
    | endCall =>
      obtain ⟨hv, hcause, hwf, -⟩ := (State.inv_iff_of_running hf).1 hi
      refine (State.inv_iff_of_running (by simp [hf])).2 ⟨?_, by simp [hcause], by simpa using hwf, by simp⟩
      rwa [State.validCfg, exec_cfg h]

/-- Construction gives the shape, from any configuration. -/
theorem State.construct_inv (cfg : Cfg) (draws : Nat) : (State.construct cfg draws).Inv := by
  have hiff := State.construct_validCfg_iff cfg draws
  by_cases hv : Cfg.valid cfg = true
  · rw [State.construct_valid hv] at hiff ⊢
    obtain ⟨-, hpos, -, -⟩ := (Cfg.valid_iff cfg).1 hv
    refine (State.inv_iff_of_running rfl).2 ⟨hiff.2 hv, rfl, ?_, nofun⟩
    intro g hg
    obtain ⟨c, hc, rfl⟩ := List.mem_map.1 hg
    exact Stage.fresh_wf (hpos c hc).1 (hpos c hc).2
  · obtain ⟨c, hrej⟩ := State.construct_invalid hv draws
    rw [hrej] at hiff ⊢
    exact ⟨nofun, fun h => absurd (hiff.1 h) hv, fun _ => rfl⟩

theorem State.hostReset_inv (s : State) (cfg : Cfg) : (s.hostReset cfg).Inv :=
  State.construct_inv cfg s.draws

/-- Settles O52, by what a step can do: each of its four ends keeps the shape, and a reset event builds it anew. -/
theorem shapeIsKeptByEveryStep : Obligations.ShapeIsKeptByEveryStep := by
  intro s t hi h
  obtain ⟨-, rfl⟩ | ⟨cfg, -, -, rfl⟩ | ⟨_, _, _, -, -, hex⟩ | ⟨_, _, _, -, -, rfl⟩ := step_cases h
  · exact hi
  · exact s.hostReset_inv cfg
  · exact exec_inv hi hex
  · exact State.illegalWord_inv hi

end Sys2Proof.Machine
end

section
/-!
SUPPORT. The counting laws, R39(f) and (g): one more sample moves the counters of a stage to the next count
(42_stage.md R123, R124).
-/

namespace Sys2Proof.Machine

theorem countedBy_cons (a : Nat) (g : Stage) (gs : List Stage) :
    countedBy a (g :: gs) = true ↔
      g.wpos = a % g.size ∧ g.need = g.period - a % g.period ∧ countedBy (a / g.period) gs = true := by
  simp [countedBy, and_assoc]

/-- The count that completes a period: the quotient goes up and the remainder starts again. -/
theorem div_mod_add_one_of_full {a p : Nat} (h : a % p + 1 = p) :
    (a + 1) / p = a / p + 1 ∧ (a + 1) % p = 0 := by
  have hp : 0 < p := by omega
  refine (Nat.div_mod_unique hp).2 ⟨?_, hp⟩
  have hsplit := Nat.mod_add_div a p
  rw [Nat.mul_add]
  omega

/-- Any other count: the quotient stays and the remainder goes up. -/
theorem div_mod_add_one_of_not_full {a p : Nat} (hp : 1 ≤ p) (h : a % p + 1 ≠ p) :
    (a + 1) / p = a / p ∧ (a + 1) % p = a % p + 1 := by
  have hlt := Nat.mod_lt a hp
  have hsplit := Nat.mod_add_div a p
  exact (Nat.div_mod_unique hp).2 ⟨by omega, by omega⟩

/-- A stage that has accepted `a` samples is ready at the next iff that one completes a period (R123). -/
theorem stgAdd_ready_of_counted {g : Stage} {a : Nat} (hp : 1 ≤ g.period) (hneed : g.need = g.period - a % g.period)
    (x : C32) : (stgAdd g x).2 = decide (a % g.period + 1 = g.period) := by
  have hlt := Nat.mod_lt a hp
  rw [stgAdd_ready, decide_eq_decide]
  omega

theorem stgAdd_wpos_of_counted {g : Stage} {a : Nat} (hs : 1 ≤ g.size) (hw : g.wpos = a % g.size) (x : C32) :
    (stgAdd g x).1.wpos = (a + 1) % g.size := by
  rw [stgAdd_wpos, Stage.nextWpos_eq (hw ▸ Nat.mod_lt a hs), hw, Nat.mod_add_mod]

theorem stgAdd_need_of_counted {g : Stage} {a : Nat} (hp : 1 ≤ g.period) (hneed : g.need = g.period - a % g.period)
    (x : C32) : (stgAdd g x).1.need = g.period - (a + 1) % g.period := by
  have hlt := Nat.mod_lt a hp
  rw [stgAdd_need]
  by_cases hfull : a % g.period + 1 = g.period
  · rw [(div_mod_add_one_of_full hfull).2, if_pos (by omega), Nat.sub_zero]
  · rw [(div_mod_add_one_of_not_full hp hfull).2, if_neg (by omega)]
    omega

/-- One pair more through the chain: a stage that completes a period hands its successor one sample more, and one that
does not leaves every later count as it is (R39(g), R145). -/
theorem chain_countedBy {gs : List Stage} {a : Nat} (hpos : ∀ g ∈ gs, 1 ≤ g.period ∧ 1 ≤ g.size)
    (hcount : countedBy a gs = true) (nu : Numerics) (x : C32) :
    countedBy (a + 1) (chain nu gs x).1 = true := by
  induction gs generalizing a x with
  | nil => rfl
  | cons g gs ih =>
    obtain ⟨⟨hp, hs⟩, hpos⟩ := List.forall_mem_cons.1 hpos
    obtain ⟨hw, hneed, hcount⟩ := (countedBy_cons a g gs).1 hcount
    have hw' := stgAdd_wpos_of_counted hs hw x
    have hneed' := stgAdd_need_of_counted hp hneed x
    have hready := stgAdd_ready_of_counted hp hneed x
    by_cases hfull : a % g.period + 1 = g.period
    · rw [chain_cons_ready (hready.trans (decide_eq_true hfull)), countedBy_cons, stgAdd_size, stgAdd_period,
        (div_mod_add_one_of_full hfull).1]
      exact ⟨hw', hneed', ih hpos hcount _⟩
    · rw [chain_cons_stall (hready.trans (decide_eq_false hfull)), countedBy_cons, stgAdd_size, stgAdd_period,
        (div_mod_add_one_of_not_full hp hfull).1]
      exact ⟨hw', hneed', hcount⟩

/-- Constructed stages have counted nothing (R201). -/
theorem fresh_countedBy (cfg : Cfg) : countedBy 0 (cfg.map Stage.fresh) = true := by
  induction cfg with
  | nil => rfl
  | cons c cs ih =>
    rw [List.map_cons, countedBy_cons]
    exact ⟨by simp [Stage.fresh], by simp [Stage.fresh, Stage.period], by rwa [Nat.zero_div]⟩

/-- A PAIR that does not fault is performed. -/
theorem exec_pair_of_running {i q : Byte} {s t : State} (h : exec (.pair i q) s = .next t) (hf : t.fault = false) :
    t = s.pairBody numerics i q := by
  obtain ⟨hs, rfl⟩ | ⟨-, c, rfl⟩ | ⟨-, hp⟩ := exec_cases h
  · simp [hs] at hf
  · simp at hf
  · cases hp; rfl

/-- A command moves no stage, unless it is a PAIR that does not fault (R179). -/
theorem exec_stages {i : Instr} {s t : State} (h : exec i s = .next t)
    (hpair : ∀ a b, i = .pair a b → t.fault = true) : t.stages = s.stages := by
  obtain ⟨-, rfl⟩ | ⟨-, c, rfl⟩ | ⟨hf, hp⟩ := exec_cases h
  · rfl
  · rfl
  · cases hp with
    | pair i q => simpa [hf] using hpair i q rfl
    | endCall => simp
    | nop | beginCall | rdtot | rdmi | rdmq | rdovl | rdovc => rfl

/-- Settles O53: a PAIR runs the chain once, a reset event constructs the stages, and no other input writes one. -/
theorem countingLawsAreKeptByEveryStep : Obligations.CountingLawsAreKeptByEveryStep := by
  intro s t a hi hv hcount h
  refine ⟨?pair, ?reset, ?other⟩
  case pair =>
    intro w rest i q hin hd hf
    rw [step_legal hin hd] at h
    rw [exec_pair_of_running h hf, State.pairBody_stages]
    obtain ⟨-, hshape, -⟩ := hi
    obtain ⟨hwf, -⟩ := hshape hv
    exact chain_countedBy (fun g hg => Stage.period_size_pos_of_wf (hwf g hg)) hcount numerics _
  case reset =>
    intro cfg rest hin hcfg
    rw [step_reset hin] at h
    obtain rfl := Host.Outcome.next.inj h
    have hstages : (s.hostReset cfg).stages = cfg.map Stage.fresh :=
      congrArg State.stages (State.construct_valid hcfg s.draws)
    exact hstages ▸ fresh_countedBy cfg
  case other =>
    intro hreset hpair
    suffices hstages : t.stages = s.stages by rwa [hstages]
    obtain ⟨-, rfl⟩ | ⟨cfg, rest, hin, -⟩ | ⟨w, rest, i, hin, hd, hex⟩ | ⟨_, _, _, -, -, rfl⟩ := step_cases h
    · rfl
    · exact absurd hin (hreset cfg rest)
    · exact exec_stages hex fun i q hi => hpair w rest i q hin (hi ▸ hd)
    · exact s.illegalWord_stages

/-- Settles O51: construction gives the shape and the counters of no pair; the rest is read off the configuration. -/
theorem invariantsHoldAtReset : Obligations.InvariantsHoldAtReset := by
  have hv : Cfg.valid Config.cfg = true := by decide
  have hreset : State.reset = State.fresh Config.cfg 0 := State.construct_valid hv 0
  refine ⟨(State.construct_validCfg_iff Config.cfg 0).2 hv, State.construct_inv Config.cfg 0, ?_, ?_, ?_⟩
    <;> rw [hreset]
  · exact fresh_countedBy Config.cfg
  · rfl
  · rfl

end Sys2Proof.Machine
end

section
/-!
SUPPORT. The decoder in terms of the fields of a word: which words give a command, and which are refused
(30_encoding.md R70, R77, R78).
-/

namespace Sys2Proof

/-- The fields of `w` are those of the command `i` (R70, R72-R74). -/
abbrev FieldsOf (w : Word) (i : Instr) : Prop :=
  fieldOp w = i.opcode ∧ fieldRsv w = 0#4 ∧ fieldArg w = i.arg

/-- The family Fields, over all nine commands. -/
theorem fieldsOf_encode (i : Instr) : FieldsOf (encode i) i := by
  cases i with
  | nop => exact Laws.Fields.nop
  | beginCall cap => exact Laws.Fields.beginCall cap
  | pair i q => exact Laws.Fields.pair i q
  | endCall => exact Laws.Fields.endCall
  | rdtot => exact Laws.Fields.rdtot
  | rdmi => exact Laws.Fields.rdmi
  | rdmq => exact Laws.Fields.rdmq
  | rdovl => exact Laws.Fields.rdovl
  | rdovc => exact Laws.Fields.rdovc

/-- A word is the row of its three fields (R70). -/
theorem append_fields (w : Word) : fieldOp w ++ fieldRsv w ++ fieldArg w = w := by
  unfold fieldOp fieldRsv fieldArg
  rw [BitVec.extractLsb'_append_extractLsb'_eq_extractLsb' (show 28 = 24 + 4 from rfl),
    BitVec.extractLsb'_append_extractLsb'_eq_extractLsb' (show 24 = 0 + 24 from rfl), BitVec.extractLsb'_eq_self]

/-- The operand field is the row of its three bytes (R73). -/
theorem append_bytes (w : Word) : fieldZero w ++ fieldQ w ++ fieldI w = fieldArg w := by
  unfold fieldZero fieldQ fieldI
  rw [BitVec.extractLsb'_append_extractLsb'_eq_extractLsb' (show 16 = 8 + 8 from rfl),
    BitVec.extractLsb'_append_extractLsb'_eq_extractLsb' (show 8 = 0 + 8 from rfl), fieldArg]

/-- The operand field of PAIR, as a row of bytes (R73). -/
theorem Instr.arg_pair (i q : Byte) : (Instr.pair i q).arg = 0#8 ++ q ++ i := by
  apply BitVec.eq_of_getLsbD_eq
  intro k hk
  simp only [Instr.arg, BitVec.getLsbD_append, BitVec.getLsbD_or, BitVec.getLsbD_shiftLeft, BitVec.zeroExtend,
    BitVec.getLsbD_setWidth, BitVec.getLsbD_zero]
  by_cases hlow : k < 8
  · simp [hlow, hk]
  · have hi : i.getLsbD k = false := BitVec.getLsbD_of_ge i k (by omega)
    have hk' : k - 8 < 24 := by omega
    by_cases hmid : k - 8 < 8
    · simp [hlow, hmid, hi, hk, hk']
    · have hq : q.getLsbD (k - 8) = false := BitVec.getLsbD_of_ge q (k - 8) (by omega)
      simp [hlow, hmid, hi, hq]

/-- Two rows of equally wide fields are the same word iff field agrees with field. -/
theorem append_eq_append_iff {m n : Nat} {a c : BitVec m} {b d : BitVec n} :
    a ++ b = c ++ d ↔ a = c ∧ b = d := by
  constructor
  · intro h
    exact ⟨by simpa only [BitVec.extractLsb'_append_eq_left] using congrArg (BitVec.extractLsb' n m) h,
      by simpa only [BitVec.extractLsb'_append_eq_right] using congrArg (BitVec.extractLsb' 0 n) h⟩
  · rintro ⟨rfl, rfl⟩
    rfl

theorem fieldArg_eq_pair_iff (w : Word) (i q : Byte) :
    fieldArg w = (Instr.pair i q).arg ↔ fieldZero w = 0#8 ∧ fieldQ w = q ∧ fieldI w = i := by
  rw [← append_bytes, Instr.arg_pair, append_eq_append_iff, append_eq_append_iff, and_assoc]

theorem plainCommand_eq_ok_iff {w : Word} {i j : Instr} :
    plainCommand w j = .ok i ↔ fieldArg w = 0#24 ∧ j = i := by
  unfold plainCommand
  split <;> simp [*]

theorem plainCommand_refuses_iff {w : Word} {j : Instr} :
    (∃ e, plainCommand w j = .error e) ↔ fieldArg w ≠ 0#24 := by
  unfold plainCommand
  split <;> simp [*]

theorem fieldsOf_of_plainCommand {w : Word} {i j : Instr} (h : plainCommand w j = .ok i)
    (hop : (fieldOp w).toNat = j.opcode.toNat) (hrsv : fieldRsv w = 0#4) (harg : j.arg = 0#24) : FieldsOf w i := by
  obtain ⟨hw, rfl⟩ := plainCommand_eq_ok_iff.1 h
  exact ⟨BitVec.eq_of_toNat_eq hop, hrsv, hw.trans harg.symm⟩

/-- The decoder answers a command on exactly the words that carry its fields. -/
theorem decode_eq_ok_iff {w : Word} {i : Instr} : decode w = .ok i ↔ FieldsOf w i := by
  constructor
  · intro h
    unfold decode at h
    split at h
    next => cases h
    next hrsv =>
    have hrsv := not_not.1 hrsv
    split at h
    case h_1 hop | h_4 hop | h_5 hop | h_6 hop | h_7 hop | h_8 hop | h_9 hop =>
      exact fieldsOf_of_plainCommand h hop hrsv rfl
    case h_2 hop =>
      cases h
      exact ⟨BitVec.eq_of_toNat_eq hop, hrsv, rfl⟩
    case h_3 hop =>
      split at h
      next hzero =>
        cases h
        exact ⟨BitVec.eq_of_toNat_eq hop, hrsv, (fieldArg_eq_pair_iff w _ _).2 ⟨hzero, rfl, rfl⟩⟩
      next => cases h
    case h_10 => cases h
  · rintro ⟨hop, hrsv, harg⟩
    cases i with
    | pair i q =>
      obtain ⟨hzero, hq, hi⟩ := (fieldArg_eq_pair_iff w i q).1 harg
      simp [decode, hop, hrsv, hzero, hi, hq, Instr.opcode]
    | beginCall _ => simp [decode, hop, hrsv, harg, Instr.opcode, Instr.arg]
    | nop | endCall | rdtot | rdmi | rdmq | rdovl | rdovc =>
      simp [decode, plainCommand, hop, hrsv, harg, Instr.opcode, Instr.arg]

/-- Settles O1: the word of a command carries its fields. -/
theorem decodeOfEncodeIsTheCommand : Obligations.DecodeOfEncodeIsTheCommand :=
  fun i => decode_eq_ok_iff.2 (fieldsOf_encode i)

/-- Settles O2: a legal word carries the fields of its command, as the encoding does, and the fields make the word. -/
theorem encodeOfDecodeIsTheWord : Obligations.EncodeOfDecodeIsTheWord := by
  intro w i h
  obtain ⟨hop, hrsv, harg⟩ := decode_eq_ok_iff.1 h
  obtain ⟨hop', hrsv', harg'⟩ := fieldsOf_encode i
  rw [← append_fields w, ← append_fields (encode i), hop, hrsv, harg, hop', hrsv', harg']

/-- The two round trips as one: decoding inverts encoding (R78). -/
theorem decode_eq_ok_iff_encode_eq {w : Word} {i : Instr} : decode w = .ok i ↔ encode i = w :=
  ⟨encodeOfDecodeIsTheWord w i, fun h => h ▸ decodeOfEncodeIsTheCommand i⟩

theorem encode_injective : Function.Injective encode := fun i _ h =>
  Except.ok.inj ((decodeOfEncodeIsTheCommand i).symm.trans (decode_eq_ok_iff_encode_eq.2 h.symm))

/-! The refused words. -/

theorem decode_refuses_iff (w : Word) :
    (∃ e, decode w = .error e) ↔
      9 ≤ (fieldOp w).toNat ∨ fieldRsv w ≠ 0#4 ∨ ((fieldOp w).toNat = 2 ∧ fieldZero w ≠ 0#8)
        ∨ ((fieldOp w).toNat ∈ [0, 3, 4, 5, 6, 7, 8] ∧ fieldArg w ≠ 0#24) := by
  unfold decode
  split
  next hrsv => simp [hrsv]
  next hrsv =>
    split
    case h_1 hop | h_4 hop | h_5 hop | h_6 hop | h_7 hop | h_8 hop | h_9 hop =>
      simp [plainCommand_refuses_iff, hop, not_not.1 hrsv]
    case h_2 hop => simp [hop, not_not.1 hrsv]
    case h_3 hop => split <;> simp [*]
    case h_10 =>
      simp only [imp_false] at *
      exact iff_of_true ⟨_, rfl⟩ (.inl (by omega))

/-- Settles O3, by the branches of the decoder; the fields are compared as bit patterns there and as numbers here. -/
theorem illegalWordsAreExactlyTheReservedOnes : Obligations.IllegalWordsAreExactlyTheReservedOnes := by
  intro w
  rw [decode_refuses_iff]
  simp only [← BitVec.toNat_inj, ne_eq]
  rfl

/-! The number of legal words. -/

/-- The commands by their operands: seven without, BEGIN with a capacity, PAIR with two bytes (R72-R74). -/
def Instr.equivOperands : Instr ≃ Fin 7 ⊕ BitVec 24 ⊕ Byte × Byte where
  toFun
    | .nop => .inl 0
    | .endCall => .inl 1
    | .rdtot => .inl 2
    | .rdmi => .inl 3
    | .rdmq => .inl 4
    | .rdovl => .inl 5
    | .rdovc => .inl 6
    | .beginCall cap => .inr (.inl cap)
    | .pair i q => .inr (.inr (i, q))
  invFun
    | .inl 0 => .nop
    | .inl 1 => .endCall
    | .inl 2 => .rdtot
    | .inl 3 => .rdmi
    | .inl 4 => .rdmq
    | .inl 5 => .rdovl
    | .inl 6 => .rdovc
    | .inr (.inl cap) => .beginCall cap
    | .inr (.inr (i, q)) => .pair i q
  left_inv i := by cases i <;> rfl
  right_inv
    | .inl k => by fin_cases k <;> rfl
    | .inr (.inl _) => rfl
    | .inr (.inr _) => rfl

theorem fintypeCard_bitVec (n : Nat) : Fintype.card (BitVec n) = 2 ^ n := by
  rw [← FinEnum.card_eq_fintypeCard, FinEnum.card_bitVec]

theorem card_instr : Nat.card Instr = 16842759 := by
  rw [Nat.card_congr Instr.equivOperands, Nat.card_eq_fintype_card]
  simp only [Fintype.card_sum, Fintype.card_prod, Fintype.card_fin, fintypeCard_bitVec]
  norm_num

/-- Settles O4: the legal words are the encodings, one for each command. -/
theorem legalWordCount : Obligations.LegalWordCount := by
  unfold Obligations.LegalWordCount
  simp only [decode_eq_ok_iff_encode_eq]
  exact (Nat.card_range_of_injective encode_injective).trans card_instr

/-- Settles O5, by evaluating the decoder on each word. -/
theorem sampleWordsDecode : Obligations.SampleWordsDecode := by
  unfold Obligations.SampleWordsDecode
  decide

end Sys2Proof
end

section
/-!
SUPPORT. Every command ends with one response, and its header carries the fields of 30_encoding.md R75.
-/

namespace Sys2Proof.Machine

/-! The fields of a header word. -/

section
variable (err : Bool) (cause : BitVec 8) (npay : Nat)

theorem responseHeader_err : (responseHeader err cause npay).getLsbD 31 = err := by
  change (BitVec.ofBool err ++ 0#7 ++ cause ++ 0#8 ++ BitVec.ofNat 8 npay).getLsbD 31 = err
  simp only [BitVec.getLsbD_append]
  simp

theorem responseHeader_npay : (responseHeader err cause npay).extractLsb 7 0 = BitVec.ofNat 8 npay :=
  BitVec.extractLsb'_append_eq_right

theorem responseHeader_zeroLow : (responseHeader err cause npay).extractLsb 15 8 = 0 := 
  (BitVec.extractLsb'_append_eq_of_le (by decide)).trans BitVec.extractLsb'_append_eq_right

theorem responseHeader_cause : (responseHeader err cause npay).extractLsb 23 16 = cause :=
  (BitVec.extractLsb'_append_eq_of_le (by decide)).trans
    ((BitVec.extractLsb'_append_eq_of_le (by decide)).trans BitVec.extractLsb'_append_eq_right)

theorem responseHeader_zeroHigh : (responseHeader err cause npay).extractLsb 30 24 = 0 := 
  (BitVec.extractLsb'_append_eq_of_le (by decide)).trans
    ((BitVec.extractLsb'_append_eq_of_le (by decide)).trans
      ((BitVec.extractLsb'_append_eq_of_le (by decide)).trans BitVec.extractLsb'_append_eq_right))

end

/-! Who answers, and with what. -/

/-- A command word that takes the block from `s` to `t` leaves the port and is answered by `r`: the error response if
the block is then FAULTED, a successful one otherwise (R75). -/
structure State.AnsweredBy (s t : State) (r : Response) : Prop where
  inbox : t.inbox = s.inbox.tail
  responses : t.responses = s.responses ++ [r]
  form : (t.fault = true ∧ r = errorResponse t.cause)
    ∨ (t.fault = false ∧ ∃ payload, payload.length ≤ 2 ∧ r = okResponse payload)

theorem State.answerFaulted_answered {s : State} (hf : s.fault = true) : ∃ r, s.AnsweredBy s.answerFaulted r :=
  ⟨_, rfl, rfl, .inl ⟨hf, rfl⟩⟩

theorem State.raise_answered (s : State) (c : Cause) : ∃ r, s.AnsweredBy (s.raise c) r :=
  ⟨_, rfl, rfl, .inl ⟨rfl, rfl⟩⟩

/-- A performed command writes its registers, then answers at most two payload words. -/
theorem State.answer_answered {s s' : State} {payload : List Word} (hin : s'.inbox = s.inbox)
    (hout : s'.responses = s.responses) (hf : s'.fault = false) (hlen : payload.length ≤ 2) :
    ∃ r, s.AnsweredBy (s'.answer payload) r :=
  ⟨_, congrArg List.tail hin, congrArg (· ++ _) hout, .inr ⟨hf, payload, hlen, rfl⟩⟩

theorem State.pairBody_answered {s : State} (hf : s.fault = false) (nu : Numerics) (i q : Byte) :
    ∃ r, s.AnsweredBy (s.pairBody nu i q) r := by
  rcases hc : (chain nu s.stages (normalize nu i q)).2 with _ | y
  · rw [State.pairBody_stall hc]
    exact State.answer_answered (by simp) (by simp) (by simpa using hf) (by simp)
  · rw [State.pairBody_emit hc, State.emit]
    exact State.answer_answered (by simp) (by simp) (by simpa using hf) (by simp)

theorem Performed.answered {s t : State} {i : Instr} (hf : s.fault = false) (hp : Performed s i t) :
    ∃ r, s.AnsweredBy t r := by
  cases hp with
  | pair i q => exact State.pairBody_answered hf numerics i q
  | endCall => exact State.answer_answered (by simp) (by simp) (by simpa using hf) (by simp)
  | nop | beginCall | rdtot | rdmi | rdmq | rdovl | rdovc =>
    exact State.answer_answered rfl rfl hf (by simp)

theorem exec_answered {i : Instr} {s t : State} (h : exec i s = .next t) : ∃ r, s.AnsweredBy t r := by
  obtain ⟨hf, rfl⟩ | ⟨-, c, rfl⟩ | ⟨hf, hp⟩ := exec_cases h
  · exact State.answerFaulted_answered hf
  · exact s.raise_answered c
  · exact hp.answered hf

theorem State.illegalWord_answered (s : State) : ∃ r, s.AnsweredBy s.illegalWord r := by
  obtain ⟨hf, h⟩ | ⟨-, h⟩ := s.illegalWord_cases <;> rw [h]
  · exact State.answerFaulted_answered hf
  · exact s.raise_answered _

/-- A step on a command word answers it, whether the word is legal or not. -/
theorem step_answered {s : State} {w : Word} {rest : List PortInput} (hin : s.inbox = .command w :: rest) :
    ∃ t r, step s = .next t ∧ s.AnsweredBy t r := by
  match hd : decode w with
  | .ok i =>
    obtain ⟨t, ht⟩ := exec_answersNext i s
    obtain ⟨r, hr⟩ := exec_answered ht
    exact ⟨t, r, (step_legal hin hd).trans ht, hr⟩
  | .error _ =>
    obtain ⟨r, hr⟩ := s.illegalWord_answered
    exact ⟨_, r, step_illegal hin hd, hr⟩

/-- The header of an answer, by the phase the block is then in. -/
theorem State.AnsweredBy.header_eq {s t : State} {r : Response} (h : s.AnsweredBy t r) :
    r.header = responseHeader t.fault (if t.fault then t.cause else 0x00#8) r.payload.length := by
  obtain ⟨hf, rfl⟩ | ⟨hf, payload, -, rfl⟩ := h.form <;> rw [hf] <;> rfl

theorem State.AnsweredBy.payload_length_le {s t : State} {r : Response} (h : s.AnsweredBy t r) :
    r.payload.length ≤ 2 := by
  obtain ⟨-, rfl⟩ | ⟨-, payload, hlen, rfl⟩ := h.form
  · exact Nat.zero_le 2
  · exact hlen

theorem State.AnsweredBy.eq_errorResponse {s t : State} {r : Response} (h : s.AnsweredBy t r)
    (hf : t.fault = true) : r = errorResponse t.cause := by
  obtain ⟨-, hr⟩ | ⟨hf', -⟩ := h.form
  · exact hr
  · simp [hf] at hf'

theorem okResponse_header {payload : List Word} (h : payload.length ≤ 2) :
    (okResponse payload).header = 0x00000000#32 ∨ (okResponse payload).header = 0x00000001#32
      ∨ (okResponse payload).header = 0x00000002#32 := by
  match payload, h with
  | [], _ => exact .inl (congrArg Response.header okResponse_none)
  | [a], _ => exact .inr (.inl (congrArg Response.header (okResponse_one a)))
  | [a, b], _ => exact .inr (.inr (congrArg Response.header (okResponse_two a b)))

theorem State.AnsweredBy.header_of_running {s t : State} {r : Response} (h : s.AnsweredBy t r)
    (hf : t.fault = false) :
    r.header = 0x00000000#32 ∨ r.header = 0x00000001#32 ∨ r.header = 0x00000002#32 := by
  obtain ⟨hf', -⟩ | ⟨-, payload, hlen, rfl⟩ := h.form
  · simp [hf] at hf'
  · exact okResponse_header hlen

/-- Settles O10: every end of a command word answers it once, and the fields are read off the one layout of header
words. -/
theorem everyCommandWordIsAnsweredOnce : Obligations.EveryCommandWordIsAnsweredOnce := by
  intro s w rest hin
  obtain ⟨t, r, ht, hr⟩ := step_answered hin
  have hlen := hr.payload_length_le
  have hinbox : t.inbox = rest := by rw [hr.inbox, hin, List.tail_cons]
  have hnpay : (BitVec.ofNat 8 r.payload.length).toNat = r.payload.length := Nat.mod_eq_of_lt (by omega)
  refine ⟨t, r, ht, hinbox, hr.responses, ?_, ?_, ?_, ?_, ?_, hlen, ?_, hr.header_of_running⟩
  · rw [hr.header_eq, responseHeader_err]
  · rw [hr.header_eq, responseHeader_zeroHigh]
  · rw [hr.header_eq, responseHeader_cause]
  · rw [hr.header_eq, responseHeader_zeroLow]
  · rw [hr.header_eq, responseHeader_npay, hnpay]
  · exact fun hf => (hr.eq_errorResponse hf).trans (errorResponse_eq _)

end Sys2Proof.Machine
end

section
/-!
SUPPORT. The assembler takes an operand inside its range and refuses one outside (30_encoding.md R80).
-/

namespace Sys2Proof.Machine

theorem asmField_of_lt {width n : Nat} (h : n < 2 ^ width) : asmField width n = .ok (BitVec.ofNat width n) :=
  if_pos h

theorem asmField_of_ge {width n : Nat} (h : 2 ^ width ≤ n) : asmField width n = .error .outOfRange :=
  if_neg (Nat.not_lt.2 h)

theorem assemble_begin (n : Nat) :
    assemble ['B', 'E', 'G', 'I', 'N'] [n] = asmField 24 n >>= fun cap => .ok [.beginCall cap] :=
  rfl

theorem assemble_pair (m n : Nat) :
    assemble ['P', 'A', 'I', 'R'] [m, n] =
      asmField 8 m >>= fun i => asmField 8 n >>= fun q => .ok [.pair i q] :=
  rfl

/-- Settles O6, by the range check of each operand. -/
theorem assemblerChecksOperandRanges : Obligations.AssemblerChecksOperandRanges := by
  constructor
  · intro n
    rw [assemble_begin]
    split
    next h => rw [asmField_of_lt (by omega)]; rfl
    next h => rw [asmField_of_ge (by omega)]; rfl
  · intro i q
    rw [assemble_pair]
    split
    next h => rw [asmField_of_lt (by omega), asmField_of_lt (by omega)]; rfl
    next h =>
      by_cases hi : i ≤ 255
      · rw [asmField_of_lt (by omega), asmField_of_ge (width := 8) (n := q) (by omega)]; rfl
      · rw [asmField_of_ge (by omega)]; rfl

end Sys2Proof.Machine
end

section
/-!
SUPPORT. The binary32 pattern as a sign and 31 magnitude bits, and the units that magnitude bits write (40_numerics.md
R91).
-/

namespace Sys2Proof.Machine

/-- The magnitude bits of a datum: its pattern without the sign bit (R91). -/
def F32.mag (a : F32) : Nat := a.toNat % 2 ^ 31

/-- The units of 2^-149 that magnitude bits write (R91), read on beyond the infinity's so that every pattern has a
successor: the rule of `F32.units`, to which `F32.units_eq` ties it. -/
def magUnits (m : Nat) : Nat := if m / 2 ^ 23 = 0 then m % 2 ^ 23 else (2 ^ 23 + m % 2 ^ 23) * 2 ^ (m / 2 ^ 23 - 1)

/-! A datum by its sign and its magnitude bits. -/

theorem F32.mag_lt (a : F32) : F32.mag a < 2 ^ 31 := Nat.mod_lt _ (by decide)

theorem F32.neg_eq (a : F32) : F32.neg a = decide (2 ^ 31 ≤ a.toNat) := by
  rw [F32.neg, ← BitVec.msb_eq_getLsbD_last, BitVec.msb_eq_decide]

theorem F32.exp_eq (a : F32) : F32.exp a = F32.mag a / 2 ^ 23 := by
  have := a.isLt
  simp only [F32.exp, F32.mag, BitVec.extractLsb'_toNat, Nat.shiftRight_eq_div_pow]
  omega

theorem F32.frac_eq (a : F32) : F32.frac a = F32.mag a % 2 ^ 23 := by
  simp only [F32.frac, F32.mag, BitVec.extractLsb'_toNat, Nat.shiftRight_zero]
  omega

theorem F32.units_eq (a : F32) : F32.units a = magUnits (F32.mag a) := by
  simp only [F32.units, magUnits, F32.exp_eq, F32.frac_eq]

theorem F32.isFinite_iff (a : F32) : F32.isFinite a = true ↔ F32.mag a < infMag := by
  have := F32.mag_lt a
  simp only [F32.isFinite, F32.exp_eq, bne_iff_ne, infMag]
  omega

theorem F32.isInf_iff (a : F32) : F32.isInf a = true ↔ F32.mag a = infMag := by
  have := F32.mag_lt a
  simp only [F32.isInf, F32.exp_eq, F32.frac_eq, Bool.and_eq_true, beq_iff_eq, infMag]
  omega

theorem F32.ext_neg_mag {a b : F32} (hn : F32.neg a = F32.neg b) (hm : F32.mag a = F32.mag b) : a = b := by
  have := a.isLt
  have := b.isLt
  simp only [F32.neg_eq, F32.mag, decide_eq_decide] at hn hm
  exact BitVec.eq_of_toNat_eq (by omega)

theorem F32.eq_negZero_iff (a : F32) : a = 0x80000000#32 ↔ F32.neg a = true ∧ F32.mag a = 0 := by
  constructor
  · rintro rfl
    decide
  · rintro ⟨hn, hm⟩
    exact F32.ext_neg_mag (hn.trans (by decide)) (hm.trans (by decide))

/-! The pattern of a sign and magnitude bits. -/

theorem infMag_lt : infMag < 2 ^ 31 := by decide

section
variable {m : Nat} (h : m < 2 ^ 31) (neg : Bool)
include h

theorem F32.toNat_pack : (F32.pack neg m).toNat = (if neg then 2 ^ 31 else 0) + m := by
  rw [F32.pack, BitVec.toNat_ofNat, Nat.mod_eq_of_lt]
  split <;> omega

theorem F32.mag_pack : F32.mag (F32.pack neg m) = m := by
  rw [F32.mag, F32.toNat_pack h]
  split <;> omega

theorem F32.neg_pack : F32.neg (F32.pack neg m) = neg := by
  rw [F32.neg_eq, F32.toNat_pack h]
  cases neg
  · simpa using h
  · simp

theorem F32.units_pack : F32.units (F32.pack neg m) = magUnits m := by
  rw [F32.units_eq, F32.mag_pack h]

theorem F32.units_ofNat : F32.units (BitVec.ofNat 32 m) = magUnits m := by
  rw [show BitVec.ofNat 32 m = F32.pack false m by simp [F32.pack], F32.units_pack h]

end

theorem F32.eq_inf {a : F32} (h : F32.isInf a = true) : a = F32.inf (F32.neg a) :=
  F32.ext_neg_mag (F32.neg_pack infMag_lt _).symm (((F32.isInf_iff a).1 h).trans (F32.mag_pack infMag_lt _).symm)

/-! Magnitude bits and their units: a larger pattern is a larger value. -/

/-- A significand `j` at the spacing of `2^k` units, normal unless the spacing is the least. At `j = 2^24` the carry into
the exponent gives the same value (R92). -/
theorem magUnits_scaled {k j : Nat} (hlow : k = 0 ∨ 2 ^ 23 ≤ j) (hhigh : j ≤ 2 ^ 24) :
    magUnits (k * 2 ^ 23 + j) = j * 2 ^ k := by
  unfold magUnits
  rcases Nat.lt_or_ge j (2 ^ 23) with hsub | hnormal
  · obtain rfl : k = 0 := by omega
    rw [if_pos (by omega)]
    omega
  · rw [if_neg (by omega)]
    rcases Nat.lt_or_ge j (2 ^ 24) with h | h
    · rw [show (k * 2 ^ 23 + j) / 2 ^ 23 - 1 = k by omega, show 2 ^ 23 + (k * 2 ^ 23 + j) % 2 ^ 23 = j by omega]
    · rw [show (k * 2 ^ 23 + j) / 2 ^ 23 - 1 = k + 1 by omega,
        show 2 ^ 23 + (k * 2 ^ 23 + j) % 2 ^ 23 = 2 ^ 23 by omega, show j = 2 ^ 23 * 2 by omega, pow_succ']
      ring

theorem exists_scaled (m : Nat) : ∃ k j, m = k * 2 ^ 23 + j ∧ (k = 0 ∨ 2 ^ 23 ≤ j) ∧ j < 2 ^ 24 := by
  refine ⟨m / 2 ^ 23 - 1, m - (m / 2 ^ 23 - 1) * 2 ^ 23, ?_, ?_, ?_⟩ <;> omega

/-- The next pattern is one spacing further on. -/
theorem magUnits_strictMono : StrictMono magUnits := by
  refine strictMono_nat_of_lt_succ fun m => ?_
  obtain ⟨k, j, rfl, hlow, hhigh⟩ := exists_scaled m
  rw [magUnits_scaled hlow hhigh.le, add_assoc, magUnits_scaled (hlow.imp_right (le_add_right ·)) hhigh]
  exact Nat.mul_lt_mul_of_pos_right j.lt_add_one (Nat.two_pow_pos k)

theorem magUnits_mul_lt {m m' d : Nat} (hd : 0 < d) (h : m < m') : magUnits m * d < magUnits m' * d :=
  Nat.mul_lt_mul_of_pos_right (magUnits_strictMono h) hd

theorem magUnits_mul_le {m m' : Nat} (h : m ≤ m') (d : Nat) : magUnits m * d ≤ magUnits m' * d :=
  Nat.mul_le_mul_right d (magUnits_strictMono.monotone h)

theorem magUnits_zero : magUnits 0 = 0 := rfl

theorem magUnits_eq_zero_iff {m : Nat} : magUnits m = 0 ↔ m = 0 :=
  magUnits_strictMono.injective.eq_iff' magUnits_zero

/-- Every value of at most 24 significant bits has a pattern: a significand below the normal range is doubled until the
spacing is the least. -/
theorem exists_magUnits_eq {j : Nat} (hj : j ≤ 2 ^ 24) (e : Nat) : ∃ m, magUnits m = j * 2 ^ e := by
  induction e generalizing j with
  | zero => exact ⟨0 * 2 ^ 23 + j, magUnits_scaled (.inl rfl) hj⟩
  | succ e ih =>
    rcases Nat.lt_or_ge j (2 ^ 23) with h | h
    · obtain ⟨m, hm⟩ := ih (j := 2 * j) (by omega)
      exact ⟨m, by rw [hm, pow_succ']; ring⟩
    · exact ⟨_, magUnits_scaled (.inr h) hj⟩

theorem lt_infMag_of_magUnits_lt {m : Nat} (h : magUnits m < 2 ^ 24 * 2 ^ 253) : m < infMag := by
  rwa [← magUnits_scaled (k := 253) (by decide) le_rfl, magUnits_strictMono.lt_iff_lt] at h

theorem F32.value_eq_zero_iff (a : F32) : F32.value a = 0 ↔ F32.mag a = 0 := by
  rw [F32.value, F32.units_eq, ← magUnits_eq_zero_iff]
  split <;> omega

theorem F32.value_nonpos {a : F32} (h : F32.neg a = true) : F32.value a ≤ 0 := by
  simp [F32.value, h]

end Sys2Proof.Machine
end

section
/-!
SUPPORT. The rounding as a comparison with the midpoints between patterns (40_numerics.md R92); what follows from it: the
nearest pattern, ties to even, overflow, and that a value with a pattern rounds to itself.
-/

namespace Sys2Proof.Machine

theorem roundMag_eq (n d : Nat) :
    roundMag n d = min infMag (((n / d).log2 - 23) * 2 ^ 23 + roundEven n (d * 2 ^ ((n / d).log2 - 23))) := rfl

theorem roundMag_le_infMag (n d : Nat) : roundMag n d ≤ infMag := Nat.min_le_left _ _

theorem roundMag_lt_two_pow_31 (n d : Nat) : roundMag n d < 2 ^ 31 := (roundMag_le_infMag n d).trans_lt infMag_lt

/-- The whole part of `n / d` in the spacing that `roundMag` takes is a significand: normal, unless the spacing is the
least. -/
theorem scaled_quotient_bounds (n d : Nat) :
    ((n / d).log2 - 23 = 0 ∨ 2 ^ 23 ≤ n / (d * 2 ^ ((n / d).log2 - 23)))
      ∧ n / (d * 2 ^ ((n / d).log2 - 23)) < 2 ^ 24 := by
  rw [← Nat.div_div_eq_div_mul]
  generalize n / d = x
  constructor
  · rcases Nat.eq_zero_or_pos (x.log2 - 23) with h | h
    · exact .inl h
    · refine .inr ((Nat.le_div_iff_mul_le (Nat.two_pow_pos _)).2 ?_)
      rw [← pow_add, show 23 + (x.log2 - 23) = x.log2 by omega]
      exact Nat.log2_self_le (by rintro rfl; simp at h)
  · rw [Nat.div_lt_iff_lt_mul (Nat.two_pow_pos _), ← pow_add]
    exact Nat.lt_log2_self.trans_le (Nat.pow_le_pow_right (by decide) (by omega))

/-- The patterns around `n / d`: `lo` is the last one not above it, and `roundMag` takes it or its successor, by where
`n / d` lies between them. -/
theorem exists_roundMag_floor (n : Nat) {d : Nat} (hd : 0 < d) :
    ∃ lo up, magUnits lo * d ≤ n ∧ n < magUnits (lo + 1) * d ∧ roundMag n d = min infMag (lo + up)
      ∧ (up = 0 ∨ up = 1)
      ∧ (up = 0 ↔ 2 * n < (magUnits lo + magUnits (lo + 1)) * d
          ∨ (2 * n = (magUnits lo + magUnits (lo + 1)) * d ∧ lo % 2 = 0)) := by
  obtain ⟨hlow, hhigh⟩ := scaled_quotient_bounds n d
  rw [roundMag_eq]
  generalize (n / d).log2 - 23 = k at *
  have hlo : magUnits (k * 2 ^ 23 + n / (d * 2 ^ k)) * d = n / (d * 2 ^ k) * (d * 2 ^ k) := by
    rw [magUnits_scaled hlow hhigh.le]; ring
  have hhi : magUnits (k * 2 ^ 23 + n / (d * 2 ^ k) + 1) * d = n / (d * 2 ^ k) * (d * 2 ^ k) + d * 2 ^ k := by
    rw [add_assoc, magUnits_scaled (hlow.imp_right (le_add_right ·)) hhigh]; ring
  have hn := Nat.div_add_mod' n (d * 2 ^ k)
  have hr := Nat.mod_lt n (Nat.mul_pos hd (Nat.two_pow_pos k))
  refine ⟨k * 2 ^ 23 + n / (d * 2 ^ k), roundEven n (d * 2 ^ k) - n / (d * 2 ^ k), by omega, by omega, ?_⟩
  rw [add_mul, hlo, hhi, roundEven]
  generalize n / (d * 2 ^ k) * (d * 2 ^ k) = base at *
  generalize n / (d * 2 ^ k) = q at *
  split
  · omega
  · split <;> omega

/-- RN32 as a comparison (R92): the rounded pattern is at most `m` iff `n / d` lies below the midpoint of `m` and its
successor, or on it with `m` even. -/
theorem roundMag_le_iff {n d m : Nat} (hd : 0 < d) (hm : m < infMag) :
    roundMag n d ≤ m ↔ 2 * n < (magUnits m + magUnits (m + 1)) * d
      ∨ (2 * n = (magUnits m + magUnits (m + 1)) * d ∧ m % 2 = 0) := by
  obtain ⟨lo, up, hlo, hhi, hr, hup, hiff⟩ := exists_roundMag_floor n hd
  rw [hr]
  rw [add_mul] at *
  rcases Nat.lt_trichotomy m lo with h | rfl | h
  · have := magUnits_mul_lt hd h
    have := magUnits_mul_le (show m + 1 ≤ lo from h) d
    omega
  · omega
  · have := magUnits_mul_lt hd m.lt_add_one
    have := magUnits_mul_le (show lo + 1 ≤ m from h) d
    omega

/-- The midpoint before the rounded pattern is not above `n / d`, and only an even pattern is taken from it. -/
theorem midpoint_below_roundMag {n d p : Nat} (hd : 0 < d) (hr : roundMag n d = p + 1) :
    (magUnits p + magUnits (p + 1)) * d ≤ 2 * n
      ∧ (2 * n = (magUnits p + magUnits (p + 1)) * d → (p + 1) % 2 = 0) := by
  have hle := roundMag_le_infMag n d
  have h := (roundMag_le_iff (n := n) (m := p) hd (by omega)).not.1 (by omega)
  omega

/-- No pattern is nearer to `n / d` than the rounded one, and where another is as near the rounded one is even (R92): any
other lies on the far side of a midpoint. -/
theorem roundMag_nearest {n d : Nat} (hd : 0 < d) (hr : roundMag n d < infMag) (m : Nat) :
    ((magUnits (roundMag n d) * d : Int) - n).natAbs ≤ ((magUnits m * d : Int) - n).natAbs
      ∧ (((magUnits (roundMag n d) * d : Int) - n).natAbs = ((magUnits m * d : Int) - n).natAbs →
          m ≠ roundMag n d → roundMag n d % 2 = 0) := by
  rcases Nat.lt_trichotomy m (roundMag n d) with h | rfl | h
  · obtain ⟨p, hp⟩ := Nat.exists_eq_add_one_of_ne_zero (Nat.ne_zero_of_lt h)
    have hbelow := midpoint_below_roundMag hd hp
    have := magUnits_mul_le (show m ≤ p by omega) d
    have := magUnits_mul_lt hd p.lt_add_one
    rw [hp]
    rw [add_mul] at hbelow
    omega
  · simp
  · have habove := (roundMag_le_iff hd hr).1 le_rfl
    have := magUnits_mul_le (show roundMag n d + 1 ≤ m from h) d
    have := magUnits_mul_lt hd (roundMag n d).lt_add_one
    rw [add_mul] at habove
    omega

/-- The midpoint before the infinity: `2^128 - 2^103` (R92). -/
theorem magUnits_add_magUnits_infMag :
    magUnits (infMag - 1) + magUnits (infMag - 1 + 1) = 2 * (2 ^ 277 - 2 ^ 252) := by
  have hlast : magUnits (infMag - 1) = (2 ^ 24 - 1) * 2 ^ 253 :=
    magUnits_scaled (k := 253) (j := 2 ^ 24 - 1) (by decide) (by decide)
  have hinf : magUnits (infMag - 1 + 1) = 2 ^ 24 * 2 ^ 253 :=
    magUnits_scaled (k := 253) (j := 2 ^ 24) (by decide) (by decide)
  rw [hlast, hinf, show 277 = 25 + 252 by rfl, show 253 = 1 + 252 by rfl, pow_add 2 25, pow_add 2 1]
  generalize 2 ^ 252 = P
  omega

/-- The rounding is finite iff `n / d` lies below that midpoint: the last finite pattern is odd. -/
theorem roundMag_lt_infMag_iff {n d : Nat} (hd : 0 < d) :
    roundMag n d < infMag ↔ n < (2 ^ 277 - 2 ^ 252) * d := by
  have h := roundMag_le_iff (n := n) (m := infMag - 1) hd (by decide)
  rw [magUnits_add_magUnits_infMag, mul_assoc] at h
  generalize (2 ^ 277 - 2 ^ 252) * d = T at *
  have hodd : (infMag - 1) % 2 = 1 := by decide
  have hpos : 0 < infMag := by decide
  omega

theorem roundMag_eq_zero_iff {n d : Nat} (hd : 0 < d) : roundMag n d = 0 ↔ 2 * n ≤ d := by
  have h := roundMag_le_iff (n := n) (m := 0) hd (by decide)
  rw [magUnits_zero, show magUnits (0 + 1) = 1 from rfl, zero_add, one_mul] at h
  omega

/-- What lies not above a pattern does not round above it. -/
theorem roundMag_le_of_le_magUnits {n d m : Nat} (hd : 0 < d) (hm : m < infMag) (h : n ≤ magUnits m * d) :
    roundMag n d ≤ m := by
  have := magUnits_mul_lt hd m.lt_add_one
  exact (roundMag_le_iff hd hm).2 (.inl (by rw [add_mul]; omega))

/-- A pattern's own value rounds to it. -/
theorem roundMag_magUnits {m d : Nat} (hd : 0 < d) (hm : m < infMag) : roundMag (magUnits m * d) d = m := by
  refine le_antisymm (roundMag_le_of_le_magUnits hd hm le_rfl) ?_
  by_contra! hlt
  have hr := (roundMag_le_iff hd (hlt.trans hm)).1 le_rfl
  have := magUnits_mul_lt hd (roundMag (magUnits m * d) d).lt_add_one
  have := magUnits_mul_le (show roundMag (magUnits m * d) d + 1 ≤ m from hlt) d
  rw [add_mul] at hr
  omega

/-- Settles O35: the rounding compares with the midpoints, and the last of them is the overflow threshold. -/
theorem roundingIsToNearestEven : Obligations.RoundingIsToNearestEven := by
  intro n d hd
  rw [show 255 * 2 ^ 23 = infMag from rfl]
  have hfinite := roundMag_lt_infMag_iff (n := n) hd
  have hle := roundMag_le_infMag n d
  refine ⟨fun h => by omega, fun h => ⟨hfinite.2 h, fun m hm => ?_⟩⟩
  rw [F32.units_ofNat (roundMag_lt_two_pow_31 n d), F32.units_ofNat (hm.trans infMag_lt)]
  exact roundMag_nearest hd (hfinite.2 h) m

/-- Settles O38: an integer of at most 24 significant bits has a pattern, so the rounding gives that pattern. -/
theorem conversionIsExactOnTwentyFourBits : Obligations.ConversionIsExactOnTwentyFourBits := by
  intro m k hm hlt
  obtain ⟨r, hr⟩ := exists_magUnits_eq hm (k + 149)
  rw [pow_add, ← mul_assoc] at hr
  have hfinite : r < infMag := lt_infMag_of_magUnits_lt <| calc
    magUnits r = m * 2 ^ k * 2 ^ 149 := hr
    _ < 2 ^ 32 * 2 ^ 149 := Nat.mul_lt_mul_of_pos_right hlt (Nat.two_pow_pos _)
    _ ≤ 2 ^ 24 * 2 ^ 253 := by norm_num
  have hlt31 := hfinite.trans infMag_lt
  have hu2f : u2f (m * 2 ^ k) = F32.pack false r := by
    rw [u2f, rn32, ← hr, ← mul_one (magUnits r), roundMag_magUnits one_pos hfinite]
  rw [hu2f, F32.isFinite_iff, F32.mag_pack hlt31, F32.value, F32.neg_pack hlt31, F32.units_pack hlt31, hr]
  exact ⟨hfinite, by push_cast; rfl⟩

end Sys2Proof.Machine
end

section
/-!
SUPPORT. The operations by the classes of their operands: which answers are NaNs, and what `fadd` can answer
(40_numerics.md R93, R94, R95, R98).
-/

namespace Sys2Proof.Machine

/-- The classes of R91: a datum is a NaN, an infinity or finite. -/
theorem F32.isFinite_iff_not (a : F32) : F32.isFinite a = true ↔ F32.isNan a = false ∧ F32.isInf a = false := by
  simp only [F32.isFinite, F32.isNan, F32.isInf, bne_iff_ne, Bool.and_eq_false_iff, beq_eq_false_iff_ne,
    bne_eq_false_iff_eq]
  tauto

section
variable {a b : F32}

theorem fadd_of_isNan (h : F32.isNan a = true ∨ F32.isNan b = true) : fadd a b = quietNan .fadd a b := by
  simp [fadd, h]

theorem fadd_of_opposite_infs (ha : F32.isInf a = true) (hb : F32.isInf b = true) (hn : F32.neg a ≠ F32.neg b) :
    fadd a b = quietNan .fadd a b := by
  simp [fadd, F32.isNan_of_isInf, ha, hb, hn]

theorem fadd_self_of_isInf (ha : F32.isInf a = true) : fadd a a = a := by
  simp [fadd, F32.isNan_of_isInf, ha]

theorem fadd_of_isInf_isFinite (ha : F32.isInf a = true) (hb : F32.isFinite b = true) : fadd a b = a := by
  obtain ⟨hnan, hinf⟩ := (F32.isFinite_iff_not b).1 hb
  simp [fadd, F32.isNan_of_isInf, ha, hnan, hinf]

theorem fadd_of_isFinite_isInf (ha : F32.isFinite a = true) (hb : F32.isInf b = true) : fadd a b = b := by
  obtain ⟨hnan, hinf⟩ := (F32.isFinite_iff_not a).1 ha
  simp [fadd, F32.isNan_of_isInf, hb, hnan, hinf]

theorem fadd_of_isFinite (ha : F32.isFinite a = true) (hb : F32.isFinite b = true) : fadd a b = finiteAdd a b := by
  obtain ⟨hnanA, hinfA⟩ := (F32.isFinite_iff_not a).1 ha
  obtain ⟨hnanB, hinfB⟩ := (F32.isFinite_iff_not b).1 hb
  simp [fadd, hnanA, hinfA, hnanB, hinfB]

theorem fmul_of_isNan (h : F32.isNan a = true ∨ F32.isNan b = true) : fmul a b = quietNan .fmul a b := by
  simp [fmul, h]

theorem fmul_of_isInf_isZero (ha : F32.isInf a = true) (hb : F32.isZero b = true) :
    fmul a b = quietNan .fmul a b := by
  simp [fmul, F32.isNan_of_isInf, F32.isNan_of_isZero, ha, hb]

theorem fmul_of_isZero_isInf (ha : F32.isZero a = true) (hb : F32.isInf b = true) :
    fmul a b = quietNan .fmul a b := by
  simp [fmul, F32.isNan_of_isInf, F32.isNan_of_isZero, ha, hb]

theorem fdiv_of_isNan (h : F32.isNan a = true ∨ F32.isNan b = true) : fdiv a b = quietNan .fdiv a b := by
  simp [fdiv, h]

theorem fdiv_of_isZero (ha : F32.isZero a = true) (hb : F32.isZero b = true) : fdiv a b = quietNan .fdiv a b := by
  simp [fdiv, F32.isNan_of_isZero, F32.isInf_of_isZero, ha, hb]

theorem fdiv_of_isInf (ha : F32.isInf a = true) (hb : F32.isInf b = true) : fdiv a b = quietNan .fdiv a b := by
  simp [fdiv, F32.isNan_of_isInf, ha, hb]

end

/-- What `fadd` can answer (R93): a quiet NaN, an operand that is an infinity, or the rounded sum of finite data. -/
theorem fadd_cases (a b : F32) :
    fadd a b = quietNan .fadd a b
      ∨ (F32.isInf a = true ∧ (b = a ∨ F32.isFinite b = true) ∧ fadd a b = a)
      ∨ (F32.isFinite a = true ∧ F32.isInf b = true ∧ fadd a b = b)
      ∨ (F32.isFinite a = true ∧ F32.isFinite b = true ∧ fadd a b = finiteAdd a b) := by
  by_cases hnan : F32.isNan a = true ∨ F32.isNan b = true
  · exact .inl (fadd_of_isNan hnan)
  obtain ⟨hnanA, hnanB⟩ : F32.isNan a = false ∧ F32.isNan b = false := by simpa using hnan
  have hfiniteA := fun hinf => (F32.isFinite_iff_not a).2 ⟨hnanA, hinf⟩
  have hfiniteB := fun hinf => (F32.isFinite_iff_not b).2 ⟨hnanB, hinf⟩
  rcases ha : F32.isInf a with _ | _ <;> rcases hb : F32.isInf b with _ | _
  · exact .inr (.inr (.inr ⟨hfiniteA ha, hfiniteB hb, fadd_of_isFinite (hfiniteA ha) (hfiniteB hb)⟩))
  · exact .inr (.inr (.inl ⟨hfiniteA ha, rfl, fadd_of_isFinite_isInf (hfiniteA ha) hb⟩))
  · exact .inr (.inl ⟨rfl, .inr (hfiniteB hb), fadd_of_isInf_isFinite ha (hfiniteB hb)⟩)
  · by_cases hn : F32.neg a = F32.neg b
    · obtain rfl : b = a := by rw [F32.eq_inf ha, F32.eq_inf hb, hn]
      exact .inr (.inl ⟨rfl, .inl rfl, fadd_self_of_isInf ha⟩)
    · exact .inl (fadd_of_opposite_infs ha hb hn)

/-- Settles O37: each clause is a case in which the operation answers its quiet NaN. -/
theorem forcedNansAreQuiet : Obligations.ForcedNansAreQuiet := by
  intro a b
  refine ⟨fun h => ?_, fun ha hb hn => ?_, fun ha hb => ?_, fun ha hb => ?_, fun ha hb => ?_⟩
  · rw [fadd_of_isNan h, fmul_of_isNan h, fdiv_of_isNan h]
    exact ⟨quietNan_isQuietNan .., quietNan_isQuietNan .., quietNan_isQuietNan ..⟩
  · rw [fadd_of_opposite_infs ha hb hn]
    exact quietNan_isQuietNan ..
  · rw [fmul_of_isInf_isZero ha hb, fmul_of_isZero_isInf hb ha]
    exact ⟨quietNan_isQuietNan .., quietNan_isQuietNan ..⟩
  · rw [fdiv_of_isZero ha hb]
    exact quietNan_isQuietNan ..
  · rw [fdiv_of_isInf ha hb]
    exact quietNan_isQuietNan ..

theorem finiteAdd_comm (a b : F32) : finiteAdd a b = finiteAdd b a := by
  simp only [finiteAdd, add_comm (F32.value b), Bool.and_comm (F32.neg b)]

/-- Settles O36, by what `fadd` can answer: the exact sum is commutative, and an infinity comes from either side. -/
theorem additionCommutes : Obligations.AdditionCommutes := by
  intro a b hnan
  obtain h | ⟨ha, rfl | hb, h⟩ | ⟨ha, hb, h⟩ | ⟨ha, hb, h⟩ := fadd_cases a b
  · simp [h, quietNan_isNan] at hnan
  · rfl
  · rw [h, fadd_of_isFinite_isInf hb ha]
  · rw [h, fadd_of_isInf_isFinite hb ha]
  · rw [h, fadd_of_isFinite hb ha, finiteAdd_comm]

end Sys2Proof.Machine
end

section
/-!
SUPPORT. A sum is `-0.0` only if its first operand is, and STG.CALC starts from `+0.0` (40_numerics.md R93, R100, R104).
-/

namespace Sys2Proof.Machine

theorem F32.pack_ne_negZero {neg : Bool} {m : Nat} (h : neg = false ∨ m ≠ 0) (hm : m < 2 ^ 31) :
    F32.pack neg m ≠ 0x80000000#32 := by
  rw [Ne, F32.eq_negZero_iff, F32.neg_pack hm, F32.mag_pack hm]
  simpa [or_iff_not_imp_left] using h

theorem F32.ne_negZero_of_isInf {a : F32} (h : F32.isInf a = true) : a ≠ 0x80000000#32 := by
  rintro rfl
  exact absurd h (by decide)

theorem quietNan_ne_negZero (op : FpOp) (a b : F32) : quietNan op a b ≠ 0x80000000#32 := fun h =>
  absurd (h ▸ quietNan_isNan op a b) (by decide)

/-- An exact zero is `-0.0` only for two of them, and a sum that is not zero does not round to a zero. -/
theorem finiteAdd_ne_negZero {a : F32} (ha : a ≠ 0x80000000#32) (b : F32) : finiteAdd a b ≠ 0x80000000#32 := by
  unfold finiteAdd
  dsimp only
  split
  next hzero =>
    refine F32.pack_ne_negZero (.inl (Bool.eq_false_iff.2 fun hneg => ha ?_)) (by decide)
    obtain ⟨hna, hnb⟩ : F32.neg a = true ∧ F32.neg b = true := by simpa using hneg
    have hva := F32.value_nonpos hna
    have hvb := F32.value_nonpos hnb
    exact (F32.eq_negZero_iff a).2 ⟨hna, (F32.value_eq_zero_iff a).1 (by omega)⟩
  next hzero =>
    refine F32.pack_ne_negZero (.inr ?_) (roundMag_lt_two_pow_31 _ _)
    rw [Ne, roundMag_eq_zero_iff one_pos]
    omega

theorem fadd_ne_negZero {a : F32} (ha : a ≠ 0x80000000#32) (b : F32) : fadd a b ≠ 0x80000000#32 := by
  obtain h | ⟨-, -, h⟩ | ⟨-, hb, h⟩ | ⟨-, -, h⟩ := fadd_cases a b <;> rw [h]
  · exact quietNan_ne_negZero _ _ _
  · exact ha
  · exact F32.ne_negZero_of_isInf hb
  · exact finiteAdd_ne_negZero ha b

theorem accumulate_ne_negZero (g : Stage) (t : Nat) (cs : List F32) {acc : C32}
    (h : acc.re ≠ 0x80000000#32 ∧ acc.im ≠ 0x80000000#32) :
    (accumulate numerics g t cs acc).re ≠ 0x80000000#32 ∧ (accumulate numerics g t cs acc).im ≠ 0x80000000#32 := by
  induction cs generalizing t acc with
  | nil => exact h
  | cons c cs ih =>
    obtain ⟨hre, him⟩ := h
    exact ih (t + 1) ⟨fadd_ne_negZero hre _, fadd_ne_negZero him _⟩

/-- Settles O34: every CMAC adds to an accumulator that is not `-0.0`, the first to `+0.0`. -/
theorem calcNeverReturnsNegativeZero : Obligations.CalcNeverReturnsNegativeZero := fun g =>
  accumulate_ne_negZero g 0 g.cfg.taps (by decide)

end Sys2Proof.Machine
end

section
/-!
SUPPORT. The bound on the running sums: one more magnitude of at most 1.0 moves it by one, up to `2^24`, where the
rounding holds it (40_numerics.md R107(c), 41_frontend.md R114).
-/

namespace Sys2Proof.Machine

/-! The sum of two data. -/

/-- The sum of finite data that are not negative, a sum of zeros included: one rounding of the exact sum (R93). -/
theorem finiteAdd_of_nonneg {a b : F32} (ha : F32.neg a = false) (hb : F32.neg b = false) :
    finiteAdd a b = F32.pack false (roundMag (F32.units a + F32.units b) 1) := by
  simp only [finiteAdd, F32.value, ha, hb, Bool.false_eq_true, if_false, Bool.and_false]
  split
  next hzero => rw [show F32.units a + F32.units b = 0 by omega]; rfl
  next hzero => rw [rn32, ← Nat.cast_add, Int.natAbs_natCast, decide_eq_false (by omega)]

/-- `2^24 + 1` is the midpoint of `2^24`, whose pattern is even, and its successor. -/
theorem exists_pattern_of_saturated_sum {u : Nat} (hu : u ≤ 2 ^ 24 * 2 ^ 149 + 2 ^ 149) :
    ∃ m, magUnits m = 2 ^ 24 * 2 ^ 149 ∧ m < infMag ∧ roundMag u 1 ≤ m := by
  have hm : magUnits (150 * 2 ^ 23 + 2 ^ 23) = 2 ^ 23 * 2 ^ 150 := magUnits_scaled (by decide) (by decide)
  have hsucc : magUnits (150 * 2 ^ 23 + 2 ^ 23 + 1) = (2 ^ 23 + 1) * 2 ^ 150 :=
    magUnits_scaled (k := 150) (j := 2 ^ 23 + 1) (by decide) (by decide)
  have hfinite : 150 * 2 ^ 23 + 2 ^ 23 < infMag := by decide
  refine ⟨_, hm.trans (by norm_num), hfinite, (roundMag_le_iff one_pos hfinite).2 ?_⟩
  rw [hm, hsucc]
  omega

/-- The new bound has a pattern, and the rounded sum does not pass it. -/
theorem exists_pattern_above_sum {n u : Nat} (hu : u ≤ min n (2 ^ 24) * 2 ^ 149 + 2 ^ 149) :
    ∃ m, magUnits m = min (n + 1) (2 ^ 24) * 2 ^ 149 ∧ m < infMag ∧ roundMag u 1 ≤ m := by
  rcases Nat.lt_or_ge n (2 ^ 24) with h | h
  · rw [min_eq_left h.le, ← Nat.succ_mul] at hu
    rw [min_eq_left h]
    obtain ⟨m, hm⟩ := exists_magUnits_eq (j := n + 1) h 149
    have hfinite : m < infMag := lt_infMag_of_magUnits_lt <| calc
      magUnits m = (n + 1) * 2 ^ 149 := hm
      _ ≤ 2 ^ 24 * 2 ^ 149 := Nat.mul_le_mul_right _ h
      _ < 2 ^ 24 * 2 ^ 253 := by norm_num
    exact ⟨m, hm, hfinite, roundMag_le_of_le_magUnits one_pos hfinite (by rwa [hm, mul_one])⟩
  · rw [min_eq_right h] at hu
    rw [min_eq_right (h.trans n.le_succ)]
    exact exists_pattern_of_saturated_sum hu

theorem sumBounded_fadd {n : Nat} {a b : F32} (ha : sumBounded n a) (hb : sumBounded 1 b) :
    sumBounded (n + 1) (fadd a b) := by
  obtain ⟨hfiniteA, hnegA, hunitsA⟩ := ha
  obtain ⟨hfiniteB, hnegB, hunitsB⟩ := hb
  obtain ⟨m, hm, hfinite, hle⟩ := exists_pattern_above_sum (n := n) (u := F32.units a + F32.units b)
    (Nat.add_le_add hunitsA (hunitsB.trans (by norm_num)))
  have hlt := roundMag_lt_two_pow_31 (F32.units a + F32.units b) 1
  rw [fadd_of_isFinite hfiniteA hfiniteB, finiteAdd_of_nonneg hnegA hnegB]
  refine ⟨?_, F32.neg_pack hlt _, ?_⟩
  · rw [F32.isFinite_iff, F32.mag_pack hlt]
    exact hle.trans_lt hfinite
  · rw [F32.units_pack hlt, ← hm]
    exact magUnits_strictMono.monotone hle

theorem sumBounded_zero : sumBounded 0 0#32 := by decide

/-- Every magnitude of the table is at most 1.0 (R113). -/
theorem sumBounded_fabs_normEntry (v : Byte) : sumBounded 1 (fabs (normEntry v)) := by
  revert v
  decide

/-! The registers. -/

section
variable (s : State) (nu : Numerics) (i q : Byte)

@[simp] theorem State.pairBody_sumI : (s.pairBody nu i q).sumI = nu.fadd s.sumI (nu.fabs (nu.norm i)) := by
  unfold State.pairBody; dsimp only; split <;> simp
@[simp] theorem State.pairBody_sumQ : (s.pairBody nu i q).sumQ = nu.fadd s.sumQ (nu.fabs (nu.norm q)) := by
  unfold State.pairBody; dsimp only; split <;> simp
@[simp] theorem State.pairBody_npairs : (s.pairBody nu i q).npairs = s.npairs + 1#31 := by
  unfold State.pairBody; dsimp only; split <;> simp

end

/-- Both running sums are bounded by the count of pairs. -/
abbrev State.SumsBounded (s : State) : Prop := sumBounded s.npairs.toNat s.sumI ∧ sumBounded s.npairs.toNat s.sumQ

/-- A PAIR adds one magnitude to each sum and one to the count, which does not wrap (R177). -/
theorem State.pairBody_sumsBounded {s : State} (hs : s.SumsBounded) (room : s.npairs ≠ maxPairs) (i q : Byte) :
    (s.pairBody numerics i q).SumsBounded := by
  obtain ⟨hi, hq⟩ := hs
  have hcount : (s.npairs + 1#31).toNat = s.npairs.toNat + 1 := by
    have hne : s.npairs.toNat ≠ 2 ^ 31 - 1 := fun h => room (BitVec.eq_of_toNat_eq h)
    bv_omega
  rw [State.SumsBounded, State.pairBody_npairs, State.pairBody_sumI, State.pairBody_sumQ, hcount]
  exact ⟨sumBounded_fadd hi (sumBounded_fabs_normEntry i), sumBounded_fadd hq (sumBounded_fabs_normEntry q)⟩

theorem exec_sumsBounded {i : Instr} {s t : State} (hs : s.fault = false → s.SumsBounded)
    (h : exec i s = .next t) (hf : t.fault = false) : t.SumsBounded := by
  obtain ⟨hfault, rfl⟩ | ⟨-, c, rfl⟩ | ⟨hrunning, hp⟩ := exec_cases h
  · simp [hfault] at hf
  · simp at hf
  · have hs := hs hrunning
    cases hp with
    | nop | rdtot | rdmi | rdmq | rdovl | rdovc => exact hs
    | beginCall cap => exact ⟨sumBounded_zero, sumBounded_zero⟩
    | pair i q _ room _ => exact State.pairBody_sumsBounded hs room i q
    | endCall => simpa [State.SumsBounded] using hs

theorem State.hostReset_sumsBounded {s : State} {cfg : Cfg} (hf : (s.hostReset cfg).fault = false) :
    (s.hostReset cfg).SumsBounded := by
  by_cases hv : Cfg.valid cfg = true
  · rw [State.hostReset, State.construct_valid hv]
    exact ⟨sumBounded_zero, sumBounded_zero⟩
  · obtain ⟨c, hc⟩ := State.construct_invalid hv s.draws
    rw [State.hostReset, hc] at hf
    cases hf

theorem State.illegalWord_fault (s : State) : s.illegalWord.fault = true := by
  obtain ⟨hf, h⟩ | ⟨-, h⟩ := s.illegalWord_cases <;> rw [h]
  · exact hf
  · rfl

/-- Settles O54, by what a step can do: only PAIR adds to the sums, BEGIN and the reset event clear them with the count,
and an illegal word leaves the block FAULTED. -/
theorem runningSumsStayBounded : Obligations.RunningSumsStayBounded := by
  intro s t hs h hf
  obtain ⟨-, rfl⟩ | ⟨cfg, -, -, rfl⟩ | ⟨_, _, _, -, -, hex⟩ | ⟨_, _, _, -, -, rfl⟩ := step_cases h
  · exact hs hf
  · exact State.hostReset_sumsBounded hf
  · exact exec_sumsBounded hs hex hf
  · simp [State.illegalWord_fault] at hf

end Sys2Proof.Machine
end

section
/-!
SUPPORT. The two lanes of the chain are independent (40_numerics.md R101, R105), proved once over either lane.
-/

namespace Sys2Proof.Machine

/-- CMAC computes this lane from this lane of its operands (R101, R104). -/
abbrev IsLane (nu : Numerics) (lane : C32 → F32) : Prop :=
  ∀ acc c x, lane (cmac nu acc c x) = nu.fadd (lane acc) (nu.fmul c (lane x))

/-- A stage as one lane sees it: its constants, its counters, and that lane of its ring. -/
def Stage.onLane (lane : C32 → F32) (g : Stage) : StageCfg × Nat × Nat × List F32 :=
  (g.cfg, g.wpos, g.need, g.ring.map lane)

section
variable {nu : Numerics} {lane : C32 → F32} {g h : Stage}

theorem Stage.onLane_eq_iff :
    g.onLane lane = h.onLane lane ↔
      g.cfg = h.cfg ∧ g.wpos = h.wpos ∧ g.need = h.need ∧ g.ring.map lane = h.ring.map lane := by
  simp [Stage.onLane]

theorem Stage.lane_ringRead (lane : C32 → F32) (g : Stage) (j : Nat) :
    lane (g.ringRead j) = (g.ring.map lane)[j]?.getD (lane (Config.noSlot j)) := by
  simp [Stage.ringRead, Option.getD_map]

theorem Stage.lane_ringRead_tapSlot (he : g.onLane lane = h.onLane lane) (t : Nat) :
    lane (g.ringRead (g.tapSlot t)) = lane (h.ringRead (h.tapSlot t)) := by
  obtain ⟨hcfg, hwpos, -, hring⟩ := Stage.onLane_eq_iff.1 he
  rw [Stage.lane_ringRead lane, Stage.lane_ringRead lane, hring]
  simp only [Stage.tapSlot, Stage.size, hwpos, hcfg]

theorem stgAdd_onLane (he : g.onLane lane = h.onLane lane) {x y : C32} (hxy : lane x = lane y) :
    (stgAdd g x).1.onLane lane = (stgAdd h y).1.onLane lane ∧ (stgAdd g x).2 = (stgAdd h y).2 := by
  obtain ⟨hcfg, hwpos, hneed, hring⟩ := Stage.onLane_eq_iff.1 he
  have hnext : g.nextWpos = h.nextWpos := by
    rw [Stage.nextWpos, Stage.nextWpos, Stage.size, Stage.size, hcfg, hwpos]
  simp only [Stage.onLane_eq_iff, stgAdd_cfg, stgAdd_wpos, stgAdd_need, stgAdd_ring, stgAdd_ready, List.map_set,
    Stage.period, hcfg, hwpos, hneed, hring, hxy, hnext, and_self]

theorem accumulate_onLane (hlane : IsLane nu lane) (he : g.onLane lane = h.onLane lane) (t : Nat) (cs : List F32)
    {acc acc' : C32} (hacc : lane acc = lane acc') :
    lane (accumulate nu g t cs acc) = lane (accumulate nu h t cs acc') := by
  induction cs generalizing t acc acc' with
  | nil => exact hacc
  | cons c cs ih => exact ih (t + 1) (by rw [hlane, hlane, hacc, Stage.lane_ringRead_tapSlot he])

theorem stgCalc_onLane (hlane : IsLane nu lane) (he : g.onLane lane = h.onLane lane) :
    lane (stgCalc nu g) = lane (stgCalc nu h) := by
  obtain ⟨hcfg, -, -, -⟩ := Stage.onLane_eq_iff.1 he
  rw [stgCalc, stgCalc, hcfg]
  exact accumulate_onLane hlane he 0 _ rfl

/-- Stages that agree on a lane, given samples that agree on it, stall alike, agree again, and hand on samples that
agree. -/
theorem chain_onLane (hlane : IsLane nu lane) {gs hs : List Stage} {x y : C32}
    (he : gs.map (Stage.onLane lane) = hs.map (Stage.onLane lane)) (hxy : lane x = lane y) :
    (chain nu gs x).1.map (Stage.onLane lane) = (chain nu hs y).1.map (Stage.onLane lane)
      ∧ (chain nu gs x).2.map lane = (chain nu hs y).2.map lane := by
  induction gs generalizing hs x y with
  | nil =>
    obtain rfl := List.map_eq_nil_iff.1 he.symm
    exact ⟨rfl, congrArg some hxy⟩
  | cons g gs ih =>
    obtain ⟨h, hs, rfl, hhead, htail⟩ := List.map_eq_cons_iff.1 he.symm
    obtain ⟨hadd, hready⟩ := stgAdd_onLane hhead.symm hxy
    rcases hr : (stgAdd g x).2 with _ | _
    · rw [chain_cons_stall hr, chain_cons_stall (hready ▸ hr)]
      exact ⟨congrArg₂ List.cons hadd htail.symm, rfl⟩
    · rw [chain_cons_ready hr, chain_cons_ready (hready ▸ hr)]
      obtain ⟨hstages, hemit⟩ := ih htail.symm (stgCalc_onLane hlane hadd)
      exact ⟨congrArg₂ List.cons hadd hstages, hemit⟩

end

/-- Settles O27: the real lane is a lane of CMAC. -/
theorem realLaneIgnoresTheImaginaryLane : Obligations.RealLaneIgnoresTheImaginaryLane :=
  fun _ _ _ _ _ he hxy => chain_onLane (lane := C32.re) (fun _ _ _ => rfl) he hxy

/-- Settles O59: the imaginary lane is a lane of CMAC. -/
theorem imaginaryLaneIgnoresTheRealLane : Obligations.ImaginaryLaneIgnoresTheRealLane :=
  fun _ _ _ _ _ he hxy => chain_onLane (lane := C32.im) (fun _ _ _ => rfl) he hxy

end Sys2Proof.Machine
end

section
/-!
SUPPORT. The front end of a PAIR that is performed: the clip flag and the count of clipping pairs (41_frontend.md R110).
-/

namespace Sys2Proof.Machine

theorem clips_iff (i q : Byte) : clips i q = true ↔ i = 0 ∨ i = 255 ∨ q = 0 ∨ q = 255 := by
  simp [clips, clipsByte, or_assoc]

section
variable (s : State) (nu : Numerics) (i q : Byte)

@[simp] theorem State.pairBody_ovl : (s.pairBody nu i q).ovl = (s.ovl || clips i q) := by
  unfold State.pairBody; dsimp only; split <;> simp
@[simp] theorem State.pairBody_ovc :
    (s.pairBody nu i q).ovc = if clips i q then s.ovc + 1#32 else s.ovc := by
  unfold State.pairBody; dsimp only; split <;> simp

end

/-- Settles O21: a PAIR that does not fault is performed, and its body clips once. -/
theorem clipSetsTheFlagAndCountsThePair : Obligations.ClipSetsTheFlagAndCountsThePair := by
  intro i q s t h hf
  obtain rfl := exec_pair_of_running h hf
  rw [← clips_iff, State.pairBody_ovl, State.pairBody_ovc]
  rcases clips i q with _ | _
  · simp
  · simp [BitVec.toNat_add]

end Sys2Proof.Machine
end

section
/-!
SUPPORT. The normalizer table as the rounded formula, and what the formula gives: its sign and magnitude, its range, and
an error too small to reach the next entry (41_frontend.md R111, R113).
-/

namespace Sys2Proof.Machine

/-- Settles O39, by evaluating the formula for each of the 256 entries. -/
theorem normTableIsTheRoundedFormula : Obligations.NormTableIsTheRoundedFormula := by
  unfold Obligations.NormTableIsTheRoundedFormula
  decide

theorem F32.neg_xor_sign (a : F32) : F32.neg (a ^^^ 0x80000000#32) = !F32.neg a := by
  simp [F32.neg]

theorem F32.mag_xor_sign (a : F32) : F32.mag (a ^^^ 0x80000000#32) = F32.mag a := by
  rw [F32.mag, F32.mag, BitVec.toNat_xor, Nat.xor_mod_two_pow]
  exact Nat.xor_zero _

theorem roundMag_mono {n n' d : Nat} (hd : 0 < d) (h : n ≤ n') : roundMag n d ≤ roundMag n' d := by
  rcases (roundMag_le_infMag n' d).lt_or_eq with hfinite | hinf
  · have habove := (roundMag_le_iff hd hfinite).1 le_rfl
    exact (roundMag_le_iff hd hfinite).2 (by omega)
  · rw [hinf]
    exact roundMag_le_infMag n d

/-- The numerator of the formula without its sign: odd, from 1 to 255 (R111). -/
def normNumerator (v : Byte) : Nat := (2 * (v.toNat : Int) - 255).natAbs

theorem normNumerator_bounds (v : Byte) : 1 ≤ normNumerator v ∧ normNumerator v ≤ 255 := by
  have := v.isLt
  rw [normNumerator]
  omega

theorem neg_normEntry (v : Byte) : F32.neg (normEntry v) = decide (2 * v.toNat < 255) := by
  rw [normTableIsTheRoundedFormula v, rn32, F32.neg_pack (roundMag_lt_two_pow_31 _ _)]

theorem mag_normEntry (v : Byte) : F32.mag (normEntry v) = roundMag (normNumerator v * 2 ^ 149) 255 := by
  rw [normTableIsTheRoundedFormula v, rn32, F32.mag_pack (roundMag_lt_two_pow_31 _ _), normNumerator]

/-- Odd symmetry (R113): the mirrored byte has the same numerator with the other sign. -/
theorem normEntry_mirror (v : Byte) : normEntry (255 - v) = normEntry v ^^^ 0x80000000#32 := by
  have hv : (255 - v).toNat = 255 - v.toNat := by bv_omega
  have hlt := v.isLt
  apply F32.ext_neg_mag
  · rw [F32.neg_xor_sign, neg_normEntry, neg_normEntry, hv, ← decide_not, decide_eq_decide]
    omega
  · rw [F32.mag_xor_sign, mag_normEntry, mag_normEntry,
      show normNumerator (255 - v) = normNumerator v by rw [normNumerator, normNumerator, hv]; omega]

/-- Normal numbers of at most 1.0 (R113): the rounding is monotone, from `1/255` up to `255/255`. -/
theorem exp_normEntry_bounds (v : Byte) : 1 ≤ F32.exp (normEntry v) ∧ F32.exp (normEntry v) ≤ 127 := by
  obtain ⟨hlow, hhigh⟩ := normNumerator_bounds v
  have hleast : roundMag (1 * 2 ^ 149) 255 = 0x3B808081 := by decide
  have hmost : roundMag (255 * 2 ^ 149) 255 = 0x3F800000 := by decide
  have hge := roundMag_mono (d := 255) (by decide) (Nat.mul_le_mul_right (2 ^ 149) hlow)
  have hle := roundMag_mono (d := 255) (by decide) (Nat.mul_le_mul_right (2 ^ 149) hhigh)
  rw [← mag_normEntry] at hge hle
  rw [F32.exp_eq]
  omega

/-- Each entry lies within half a step of the formula: `j/256` has a pattern, is that near to `j/255`, and the rounded
pattern is no further. -/
theorem roundMag_normalized_near {j : Nat} (hj : j ≤ 255) :
    ((magUnits (roundMag (j * 2 ^ 149) 255) * 255 : Int) - j * 2 ^ 149).natAbs < 2 ^ 149 := by
  obtain ⟨m, hm⟩ := exists_magUnits_eq (hj.trans (by decide)) 141
  have hfinite : roundMag (j * 2 ^ 149) 255 < infMag :=
    (roundMag_mono (by decide) (Nat.mul_le_mul_right _ hj)).trans_lt (by decide)
  have hnear := (roundMag_nearest (by decide) hfinite m).1
  rw [hm] at hnear
  omega

theorem value_normEntry_near (v : Byte) :
    (F32.value (normEntry v) * 255 - (2 * v.toNat - 255) * 2 ^ 149).natAbs < 2 ^ 149 := by
  have hnear := roundMag_normalized_near (normNumerator_bounds v).2
  rw [F32.value, neg_normEntry, F32.units_eq, mag_normEntry]
  generalize magUnits _ = u at *
  rw [normNumerator] at hnear
  simp only [decide_eq_true_eq]
  split <;> omega

/-- The formula's values are one step apart, so the entries keep its order (R113). -/
theorem value_normEntry_lt_succ {v : Byte} (hv : v.toNat < 255) :
    F32.value (normEntry v) < F32.value (normEntry (v + 1)) := by
  have hsucc : (v + 1).toNat = v.toNat + 1 := by bv_omega
  have hnear := value_normEntry_near v
  have hnext := value_normEntry_near (v + 1)
  rw [hsucc] at hnext
  omega

/-- Settles O40: the end points are read off the table, and the rest follows from the formula. -/
theorem normTableProperties : Obligations.NormTableProperties := by
  refine ⟨by decide, by decide, fun v => ?_⟩
  obtain ⟨hnormal, hone⟩ := exp_normEntry_bounds v
  refine ⟨normEntry_mirror v, hnormal, hone, ?_, value_normEntry_lt_succ⟩
  rw [neg_normEntry, decide_eq_true_eq]
  omega

end Sys2Proof.Machine
end

section
/-!
SUPPORT. The FIR stage under STG.ADD: the stage it leaves, and its counters after many samples (42_stage.md R121, R123,
R124).
-/

namespace Sys2Proof.Machine

theorem Stage.need_sub_one_eq_zero_iff {g : Stage} (h : g.Wf) : g.need - 1 = 0 ↔ g.need = 1 := by
  have := Stage.need_pos_of_wf h
  omega

/-- Settles O28, field by field; the advance of the write position is the step modulo `N[k]`. -/
theorem stageAddStoresAdvancesAndCounts : Obligations.StageAddStoresAdvancesAndCounts := by
  intro g x h
  have hfields : stgAdd g x = (⟨(stgAdd g x).1.cfg, (stgAdd g x).1.ring, (stgAdd g x).1.wpos, (stgAdd g x).1.need⟩,
    (stgAdd g x).2) := rfl
  have hleft := Stage.need_sub_one_eq_zero_iff h
  obtain ⟨-, hw, -, -⟩ := h
  rw [hfields, stgAdd_cfg, stgAdd_ring, stgAdd_wpos, stgAdd_need, stgAdd_ready, Stage.nextWpos_eq hw]
  simp only [hleft, Stage.size, Stage.period]

/-! Many samples. -/

@[simp] theorem Stage.acceptAll_nil (g : Stage) : g.acceptAll [] = g := rfl

@[simp] theorem Stage.acceptAll_cons (g : Stage) (x : C32) (xs : List C32) :
    g.acceptAll (x :: xs) = (stgAdd g x).1.acceptAll xs := rfl

@[simp] theorem Stage.acceptAll_cfg (g : Stage) (xs : List C32) : (g.acceptAll xs).cfg = g.cfg := by
  induction xs generalizing g with
  | nil => rfl
  | cons x xs ih => exact (ih _).trans (stgAdd_cfg g x)

theorem Stage.acceptAll_size (g : Stage) (xs : List C32) : (g.acceptAll xs).size = g.size := by
  simp [Stage.size]

theorem Stage.acceptAll_period (g : Stage) (xs : List C32) : (g.acceptAll xs).period = g.period := by
  simp [Stage.period]

/-- The counters of a stage that has accepted `a` samples, after more of them (R124). -/
theorem Stage.acceptAll_counted {g : Stage} {a : Nat} (hp : 1 ≤ g.period) (hs : 1 ≤ g.size)
    (hw : g.wpos = a % g.size) (hneed : g.need = g.period - a % g.period) (xs : List C32) :
    (g.acceptAll xs).wpos = (a + xs.length) % g.size
      ∧ (g.acceptAll xs).need = g.period - (a + xs.length) % g.period := by
  induction xs generalizing g a with
  | nil => exact ⟨hw, hneed⟩
  | cons x xs ih =>
    have hmore := ih (g := (stgAdd g x).1) (a := a + 1) (by simpa using hp) (by simpa using hs)
      (by rw [stgAdd_wpos_of_counted hs hw, stgAdd_size]) (by rw [stgAdd_need_of_counted hp hneed, stgAdd_period])
    rwa [stgAdd_size, stgAdd_period, add_assoc, add_comm 1] at hmore

/-- The count that completes a period is the one the period divides (R123). -/
theorem mod_add_one_eq_iff_dvd {a p : Nat} (hp : 1 ≤ p) : a % p + 1 = p ↔ p ∣ a + 1 := by
  rw [Nat.dvd_iff_mod_eq_zero]
  by_cases hfull : a % p + 1 = p
  · simp [hfull, (div_mod_add_one_of_full hfull).2]
  · simp [hfull, (div_mod_add_one_of_not_full hp hfull).2]

/-- Settles O29: a stage fresh from reset has counted nothing, and a stage that has counted `A` is ready at the sample
that completes a period. -/
theorem stageCountersAfterManySamples : Obligations.StageCountersAfterManySamples := by
  intro c xs x hm hn
  have hcount := Stage.acceptAll_counted (g := Stage.fresh c) (a := 0) hm hn (Nat.zero_mod _).symm
    (by simp [Stage.fresh, Stage.period]) xs
  rw [zero_add] at hcount
  obtain ⟨hw, hneed⟩ := hcount
  refine ⟨hw, hneed, ?_⟩
  rw [← (Stage.fresh c).acceptAll_period xs] at hneed
  rw [stgAdd_ready_of_counted (by rwa [Stage.acceptAll_period]) hneed, decide_eq_true_eq, Stage.acceptAll_period]
  exact mod_add_one_eq_iff_dvd hm

end Sys2Proof.Machine
end

section
/-!
SUPPORT. The window of a stage is its ring from the write position on; STG.ADD shifts it, and STG.CALC is the inner
product of the taps with it (42_stage.md R122, R126, R128, R129).
-/

namespace Sys2Proof.Machine

/-! The window. -/

theorem Stage.window_eq_rotate {g : Stage} (h : g.ring.length = g.size) : g.window = g.ring.rotate g.wpos := by
  refine List.ext_getElem (by simp [Stage.window, h]) fun t ht _ => ?_
  have hs : t < g.size := by simpa [Stage.window] using ht
  have hslot : g.tapSlot t < g.ring.length := h ▸ Nat.mod_lt _ (Nat.zero_lt_of_lt hs)
  simp only [Stage.window, List.getElem_map, List.getElem_range, Stage.ringRead_of_lt hslot, List.getElem_rotate]
  simp only [Stage.tapSlot, h, add_comm]

@[simp] theorem Stage.window_length (g : Stage) : g.window.length = g.size := by simp [Stage.window]

/-- An overwritten slot is the first of the list rotated to it, and the last of the list rotated one further. -/
theorem rotate_set_succ {α : Type} {l : List α} {w : Nat} (h : w < l.length) (x : α) :
    (l.set w x).rotate (w + 1) = (l.rotate w).tail ++ [x] := by
  have hprefix : (l.take w ++ [x]).length = w + 1 := by simp [h.le]
  calc (l.set w x).rotate (w + 1)
      = ((l.take w ++ [x]) ++ l.drop (w + 1)).rotate (l.take w ++ [x]).length := by
        rw [hprefix, List.set_eq_take_cons_drop x h, List.append_assoc, List.singleton_append]
    _ = l.drop (w + 1) ++ (l.take w ++ [x]) := List.rotate_append_length_eq _ _
    _ = (l.rotate w).tail ++ [x] := by
        rw [List.rotate_eq_drop_append_take h.le, List.drop_eq_getElem_cons h, List.cons_append, List.tail_cons,
          List.append_assoc]

/-- Settles O30: STG.ADD overwrites the slot at the write position and advances past it, and the window is the ring
rotated to the write position. -/
theorem windowSlidesByOne : Obligations.WindowSlidesByOne := by
  intro g x h
  have hstored := stgAdd_wf h x
  obtain ⟨hlen, hw, -, -⟩ := h
  obtain ⟨hlen', -, -, -⟩ := hstored
  calc (stgAdd g x).1.window
      = (g.ring.set g.wpos x).rotate ((g.wpos + 1) % g.size) := by
        rw [Stage.window_eq_rotate hlen', stgAdd_ring, stgAdd_wpos, Stage.nextWpos_eq hw]
    _ = (g.ring.set g.wpos x).rotate (g.wpos + 1) := by rw [← hlen, ← List.length_set, List.rotate_mod]
    _ = (g.ring.rotate g.wpos).tail ++ [x] := rotate_set_succ (hlen ▸ hw) x
    _ = g.window.tail ++ [x] := by rw [Stage.window_eq_rotate hlen]

/-- The window after more samples is as long as before, and ends with them (R129). -/
theorem Stage.acceptAll_window {g : Stage} (h : g.Wf) (xs : List C32) :
    (g.acceptAll xs).window = (g.window ++ xs).drop xs.length := by
  induction xs generalizing g with
  | nil => simp
  | cons x xs ih =>
    have hne : g.window ≠ [] := List.ne_nil_of_length_pos (g.window_length ▸ (Stage.period_size_pos_of_wf h).2)
    rw [Stage.acceptAll_cons, ih (stgAdd_wf h x), windowSlidesByOne g x h, List.append_assoc, List.singleton_append,
      ← List.tail_append_of_ne_nil hne, List.length_cons, List.drop_tail]

theorem Stage.fresh_window (c : StageCfg) : (Stage.fresh c).window = List.replicate c.taps.length C32.zero := by
  rw [Stage.window_eq_rotate (by simp [Stage.fresh, Stage.size])]
  simp [Stage.fresh]

/-! The inner product. -/

/-- The taps from number `t` on meet the slots from offset `t` on (R126). -/
theorem accumulate_eq_foldl (nu : Numerics) (g : Stage) (t : Nat) (cs : List F32) (acc : C32) :
    accumulate nu g t cs acc =
      (cs.zip ((List.range' t cs.length).map fun t => g.ringRead (g.tapSlot t))).foldl
        (fun acc p => cmac nu acc p.1 p.2) acc := by
  induction cs generalizing t acc with
  | nil => rfl
  | cons c cs ih => exact ih (t + 1) _

/-- Settles O31: the window holds the slots from offset 0 on, as many as there are taps. -/
theorem calcIsTheInnerProductOfTheWindow : Obligations.CalcIsTheInnerProductOfTheWindow := by
  intro nu g
  rw [stgCalc, accumulate_eq_foldl, ← List.range_eq_range']
  rfl

/-- Settles O32: each sample shifts the window by one, from the reset zeros on. -/
theorem closedFormOfAStage : Obligations.ClosedFormOfAStage := by
  intro nu c xs hm hn
  have hwindow := Stage.acceptAll_window (Stage.fresh_wf hm hn) xs
  rw [Stage.fresh_window] at hwindow
  refine ⟨hwindow, ?_⟩
  rw [calcIsTheInnerProductOfTheWindow, hwindow, Stage.acceptAll_cfg]
  rfl

end Sys2Proof.Machine
end

section
/-!
SUPPORT. The identity stage: multiplying by 1.0 and adding to `+0.0` return a datum, but for `-0.0` (40_numerics.md R93,
R94; 42_stage.md R131).
-/

namespace Sys2Proof.Machine

theorem F32.pack_neg_mag (a : F32) : F32.pack (F32.neg a) (F32.mag a) = a :=
  F32.ext_neg_mag (F32.neg_pack (F32.mag_lt a) _) (F32.mag_pack (F32.mag_lt a) _)

/-- A finite datum's units round to the datum, whatever denominator they are written over. -/
theorem rn32_units {a : F32} (h : F32.isFinite a = true) {d : Nat} (hd : 0 < d) :
    rn32 (F32.neg a) (F32.units a * d) d = a := by
  rw [rn32, F32.units_eq, roundMag_magUnits hd ((F32.isFinite_iff a).1 h), F32.pack_neg_mag]

theorem F32.natAbs_value (a : F32) : (F32.value a).natAbs = F32.units a := by
  rw [F32.value]
  split <;> simp

theorem F32.neg_of_value_ne_zero {a : F32} (h : F32.value a ≠ 0) : F32.neg a = decide (F32.value a < 0) := by
  rw [F32.value] at h ⊢
  rcases hneg : F32.neg a with _ | _
  · simp
  · simpa [hneg, Nat.pos_iff_ne_zero] using h

theorem F32.isFinite_or_isInf {a : F32} (h : F32.isNan a = false) : F32.isFinite a = true ∨ F32.isInf a = true := by
  rcases hinf : F32.isInf a with _ | _
  · exact .inl ((F32.isFinite_iff_not a).2 ⟨h, hinf⟩)
  · exact .inr rfl

/-! Multiplication by 1.0. -/

theorem fmul_of_isFinite {a b : F32} (ha : F32.isFinite a = true) (hb : F32.isFinite b = true) :
    fmul a b = rn32 (F32.neg a != F32.neg b) (F32.units a * F32.units b) (2 ^ 149) := by
  obtain ⟨hnanA, hinfA⟩ := (F32.isFinite_iff_not a).1 ha
  obtain ⟨hnanB, hinfB⟩ := (F32.isFinite_iff_not b).1 hb
  simp [fmul, hnanA, hinfA, hnanB, hinfB]

theorem fmul_of_isFinite_isInf {a b : F32} (ha : F32.isFinite a = true) (hzero : F32.isZero a = false)
    (hb : F32.isInf b = true) : fmul a b = F32.inf (F32.neg a != F32.neg b) := by
  obtain ⟨hnan, -⟩ := (F32.isFinite_iff_not a).1 ha
  have hzeroB : F32.isZero b = false := by
    by_contra h
    simp [F32.isInf_of_isZero (Bool.eq_true_of_not_eq_false h)] at hb
  simp [fmul, hnan, hzero, hb, hzeroB, F32.isNan_of_isInf hb]

theorem one_fmul {a : F32} (h : F32.isNan a = false) : fmul 0x3F800000#32 a = a := by
  have hone : F32.isFinite 0x3F800000#32 = true := by decide
  have hpos : F32.neg 0x3F800000#32 = false := by decide
  have hunits : F32.units 0x3F800000#32 = 2 ^ 149 := by decide
  obtain hf | hinf := F32.isFinite_or_isInf h
  · rw [fmul_of_isFinite hone hf, hpos, hunits, Bool.false_bne, Nat.mul_comm, rn32_units hf (Nat.two_pow_pos 149)]
  · rw [fmul_of_isFinite_isInf hone (by decide) hinf, hpos, Bool.false_bne, ← F32.eq_inf hinf]

/-! Addition to `+0.0`. -/

theorem finiteAdd_posZero {a : F32} (h : F32.isFinite a = true) :
    finiteAdd 0x00000000#32 a = if a = 0x80000000#32 then 0x00000000#32 else a := by
  have hzero : F32.value 0x00000000#32 = 0 := by decide
  have hpos : F32.neg 0x00000000#32 = false := by decide
  simp only [finiteAdd, hzero, hpos, zero_add, Bool.false_and]
  by_cases hv : F32.value a = 0
  · have hmag := (F32.value_eq_zero_iff a).1 hv
    rw [if_pos hv]
    split
    next => rfl
    next hne =>
      have hneg : F32.neg a = false := by simpa [F32.eq_negZero_iff, hmag] using hne
      rw [← hneg, ← hmag, F32.pack_neg_mag]
  · have hne : a ≠ 0x80000000#32 := by
      rintro rfl
      exact hv (by decide)
    rw [if_neg hv, if_neg hne, F32.natAbs_value, ← F32.neg_of_value_ne_zero hv]
    simpa using rn32_units h one_pos

theorem fadd_posZero {a : F32} (h : F32.isNan a = false) :
    fadd 0x00000000#32 a = if a = 0x80000000#32 then 0x00000000#32 else a := by
  have hzero : F32.isFinite 0x00000000#32 = true := by decide
  obtain hf | hinf := F32.isFinite_or_isInf h
  · rw [fadd_of_isFinite hzero hf, finiteAdd_posZero hf]
  · rw [fadd_of_isFinite_isInf hzero hinf, if_neg (F32.ne_negZero_of_isInf hinf)]

/-- A stage of one tap holds the last sample only. -/
theorem stgAdd_window_of_size_one {g : Stage} (h : g.Wf) (hs : g.size = 1) (x : C32) :
    (stgAdd g x).1.window = [x] := by
  have htail : g.window.tail = [] := List.eq_nil_of_length_eq_zero (by simp [hs])
  rw [windowSlidesByOne g x h, htail, List.nil_append]

/-- Settles O33: the window is the sample itself, so the inner product is `+0.0 + 1.0 * x` in each lane. -/
theorem identityStageReturnsItsSample : Obligations.IdentityStageReturnsItsSample := by
  intro g x h hcfg hre him
  have hperiod : g.period = 1 := congrArg (·.factor) hcfg
  have hsize : g.size = 1 := congrArg (·.taps.length) hcfg
  constructor
  · obtain ⟨-, -, -, hneed⟩ := h
    rw [stgAdd_ready, decide_eq_true_eq]
    omega
  · have hlane : ∀ a, F32.isNan a = false →
        fadd 0x00000000#32 (fmul 0x3F800000#32 a) = if a = 0x80000000#32 then 0x00000000#32 else a := fun a ha => by
      rw [one_fmul ha, fadd_posZero ha]
    rw [calcIsTheInnerProductOfTheWindow, stgAdd_window_of_size_one h hsize, stgAdd_cfg, hcfg, ← hlane _ hre,
      ← hlane _ him]
    rfl

end Sys2Proof.Machine
end

section
/-!
SUPPORT. What PAIR may write in the rings: the one slot at each write position (42_stage.md R121, 20_memory.md R58).
-/

namespace Sys2Proof.Machine

/-- `g'` is `g` but for its counters and the ring slot at the write position of `g` (R121). -/
structure Stage.SameButOneSlot (g g' : Stage) : Prop where
  cfg : g'.cfg = g.cfg
  ring_length : g'.ring.length = g.ring.length
  ring_other : ∀ j, j ≠ g.wpos → g'.ring[j]? = g.ring[j]?

theorem Stage.SameButOneSlot.refl (g : Stage) : g.SameButOneSlot g := ⟨rfl, rfl, fun _ _ => rfl⟩

theorem stgAdd_sameButOneSlot (g : Stage) (x : C32) : g.SameButOneSlot (stgAdd g x).1 where
  cfg := stgAdd_cfg g x
  ring_length := by simp
  ring_other j hj := by rw [stgAdd_ring, List.getElem?_set_ne hj.symm]

/-- The chain performs STG.ADD on the stages it reaches and leaves the others alone (R145). -/
theorem chain_sameButOneSlot (nu : Numerics) (gs : List Stage) (x : C32) :
    List.Forall₂ Stage.SameButOneSlot gs (chain nu gs x).1 := by
  induction gs generalizing x with
  | nil => exact .nil
  | cons g gs ih =>
    rcases hr : (stgAdd g x).2 with _ | _
    · rw [chain_cons_stall hr]
      exact .cons (stgAdd_sameButOneSlot g x) (List.forall₂_same.2 fun h _ => .refl h)
    · rw [chain_cons_ready hr]
      exact .cons (stgAdd_sameButOneSlot g x) (ih _)

/-- A PAIR that does not fault runs the chain; any other leaves the stages as they are. -/
theorem exec_pair_sameButOneSlot {i q : Byte} {s t : State} (h : exec (.pair i q) s = .next t) :
    List.Forall₂ Stage.SameButOneSlot s.stages t.stages := by
  rcases hf : t.fault with _ | _
  · rw [exec_pair_of_running h hf, State.pairBody_stages]
    exact chain_sameButOneSlot numerics s.stages _
  · rw [exec_stages h fun _ _ _ => hf]
    exact List.forall₂_same.2 fun g _ => .refl g

theorem exec_pair_ovl {i q : Byte} {s t : State} (h : exec (.pair i q) s = .next t) (ho : s.ovl = true) :
    t.ovl = true := by
  obtain ⟨-, rfl⟩ | ⟨-, c, rfl⟩ | ⟨-, hp⟩ := exec_cases h
  · exact ho
  · exact ho
  · cases hp; simp [ho]

/-- Settles O47: the stages by the frame of the chain, the registers by the rule of each (R26, R29, R33, R37). -/
theorem pairFrame : Obligations.PairFrame := by
  intro i q s t h
  have hstages := exec_pair_sameButOneSlot h
  obtain ⟨-, -, -, -, hmeans, hcap, hcall⟩ := registersAreWrittenOnlyByTheirCommands _ s t h
  obtain ⟨hmeanI, hmeanQ, hdraws⟩ := hmeans nofun
  refine ⟨hstages.length_eq.symm, ?_, hmeanI, hmeanQ, hcap nofun, hcall nofun nofun, hdraws, exec_pair_ovl h⟩
  intro k g hk
  obtain ⟨hlt, rfl⟩ := List.getElem?_eq_some_iff.1 hk
  have hk' : k < t.stages.length := hstages.length_eq ▸ hlt
  obtain ⟨hcfg, hlen, hother⟩ := hstages.get hlt hk'
  exact ⟨_, List.getElem?_eq_getElem hk', hcfg, hlen, hother⟩

end Sys2Proof.Machine
end

section
/-!
SUPPORT. A command that no check stops, written out: the whole next state of NOP, BEGIN, END and PAIR (43_pipeline.md
R136, R140 to R144, R151, R152).
-/

namespace Sys2Proof.Machine

/-- The converse of `exec_cases` for a block that is not FAULTED: a command that passes its checks is performed. -/
theorem exec_of_performed {i : Instr} {s t : State} (hf : s.fault = false) (hp : Performed s i t) :
    exec i s = .next t := by
  cases hp with
  | nop => exact congrArg Host.Outcome.next (State.unlessFaulted_of_running hf _)
  | pair i q hc hroom hfits =>
    have hcheck : s.pairChecked numerics i q = s.pairBody numerics i q := by
      obtain ⟨hn, -⟩ | ⟨-, he, -⟩ | ⟨-, -, h⟩ := s.pairChecked_cases numerics i q
      · exact absurd hn hroom
      · simp only [Bool.and_eq_true, beq_iff_eq] at he
        exact absurd he.2 (hfits he.1)
      · exact h
    exact congrArg Host.Outcome.next ((State.whenInCall_inCall hf hc _).trans hcheck)
  | endCall hc => exact congrArg Host.Outcome.next (State.whenInCall_inCall hf hc _)
  | beginCall _ hc | rdtot hc | rdmi hc | rdmq hc | rdovl hc | rdovc hc =>
    exact congrArg Host.Outcome.next (State.whenIdle_idle hf hc _)

theorem State.answer_one (s : State) (a : Word) :
    s.answer [a] = { s with inbox := s.inbox.tail, responses := s.responses ++ [⟨0x00000001#32, [a]⟩] } := by
  rw [← okResponse_one]; rfl

theorem State.answer_two (s : State) (a b : Word) :
    s.answer [a, b] = { s with inbox := s.inbox.tail, responses := s.responses ++ [⟨0x00000002#32, [a, b]⟩] } := by
  rw [← okResponse_two]; rfl

/-- A command that is not legal in the phase (R174). -/
theorem State.raise_protocol (s : State) :
    s.raise .protocol =
      { s with
        fault := true, cause := 0x11#8, inbox := s.inbox.tail
        responses := s.responses ++ [⟨0x80110000#32, []⟩] } := by
  rw [← errorResponse_protocol]; rfl

theorem State.answerFaulted_eq (s : State) :
    s.answerFaulted =
      { s with
        inbox := s.inbox.tail
        responses := s.responses ++ [⟨0x80000000#32 ||| (s.cause.zeroExtend 32 <<< 16), []⟩] } := by
  rw [← errorResponse_eq]; rfl

theorem State.writeMeans_of_pairs {s : State} (h : s.npairs ≠ 0) (nu : Numerics) :
    s.writeMeans nu =
      { s with meanI := nu.fdiv s.sumI (nu.u2f s.rawLen), meanQ := nu.fdiv s.sumQ (nu.u2f s.rawLen) } :=
  if_neg h

theorem State.writeMeans_of_no_pairs {s : State} (h : s.npairs = 0) (nu : Numerics) :
    s.writeMeans nu =
      { s with meanI := freeF32 s.draws [0], meanQ := freeF32 s.draws [1], draws := s.draws + 1 } :=
  if_pos h

/-- Settles O16: NOP is performed in either phase. -/
theorem nopAnswersOk : Obligations.NopAnswersOk := by
  intro s
  constructor
  · exact fun hf => exec_of_performed hf .nop
  · intro hf
    rw [← State.answerFaulted_eq]
    exact congrArg Host.Outcome.next (State.unlessFaulted_of_faulted hf _)

/-- Settles O17: with no call open BEGIN is performed, in a call it is not legal. -/
theorem beginOpensACall : Obligations.BeginOpensACall := by
  intro cap s hf
  constructor
  · exact fun hc => exec_of_performed hf (.beginCall cap hc)
  · intro hc
    rw [← State.raise_protocol]
    exact congrArg Host.Outcome.next (State.whenIdle_inCall hf hc _)

/-- Settles O18: in a call END is performed, with no call open it is not legal. -/
theorem endWritesTheMeans : Obligations.EndWritesTheMeans := by
  intro s hf
  constructor
  · intro hc hn
    rw [exec_of_performed hf (.endCall hc), State.writeMeans_of_pairs hn, State.answer_one]
    rfl
  · intro hc
    rw [← State.raise_protocol]
    exact congrArg Host.Outcome.next (State.whenInCall_idle hf hc _)

/-- Settles O19: END is performed, and the means of an empty call are the values drawn. -/
theorem endOfAnEmptyCallLeavesTheMeansOpen : Obligations.EndOfAnEmptyCallLeavesTheMeansOpen := by
  intro s hf hc hn
  refine ⟨freeF32 s.draws [0], freeF32 s.draws [1], s.draws + 1, ?_⟩
  rw [exec_of_performed hf (.endCall hc), State.writeMeans_of_no_pairs hn, State.answer_one]

/-! PAIR. -/

/-- The payload of the response to a PAIR whose chain gave `y`: the emitted sample, in-phase word first, or nothing
(R76, R142). -/
def samplePayload : Option C32 → List Word
  | none => []
  | some y => [y.re, y.im]

@[simp] theorem samplePayload_none : samplePayload none = [] := rfl

@[simp] theorem samplePayload_some (y : C32) : samplePayload (some y) = [y.re, y.im] := rfl

theorem State.frontEnd_eq (s : State) (nu : Numerics) (i q : Byte) :
    s.frontEnd nu i q =
      { s with
        ovl := s.ovl || clips i q
        ovc := if clips i q then s.ovc + 1#32 else s.ovc
        sumI := nu.fadd s.sumI (nu.fabs (nu.norm i))
        sumQ := nu.fadd s.sumQ (nu.fabs (nu.norm q))
        npairs := s.npairs + 1#31 } := by
  unfold State.frontEnd State.clip
  split
  next hclip => simp [State.absacc, normalize, hclip]
  next hclip => simp [State.absacc, normalize, hclip]

/-- The body of PAIR, whatever the chain gives: the registers it writes and the one response (R141, R142). -/
theorem State.pairBody_eq (s : State) (nu : Numerics) (i q : Byte) :
    s.pairBody nu i q =
      State.answer
        { s.frontEnd nu i q with
          stages := (chain nu s.stages (normalize nu i q)).1
          outLen :=
            if (chain nu s.stages (normalize nu i q)).2 = none then s.outLen else s.outLen + 1#24 }
        (samplePayload (chain nu s.stages (normalize nu i q)).2) := by
  rcases hc : (chain nu s.stages (normalize nu i q)).2 with _ | y
  · simp [State.pairBody_stall hc, State.frontEnd_eq]
  · simp [State.pairBody_emit hc, State.emit]

/-- Settles O20: a PAIR that passes its checks is performed, and its body is written out field by field. -/
theorem pairPerformsTheBody : Obligations.PairPerformsTheBody := by
  intro i q s hf hc hroom hfits
  have hperformed : Performed s (.pair i q) (s.pairBody numerics i q) :=
    .pair i q hc (fun h => hroom (congrArg BitVec.toNat h)) fun he hfull => hfits ⟨s.wouldEmit_iff.1 he, hfull⟩
  have hnormal : normalize numerics i q = ⟨normEntry i, normEntry q⟩ := rfl
  have hclips : decide (clips i q = true) = clips i q := Bool.decide_eq_true
  simp only [exec_of_performed hf hperformed, State.pairBody_eq, State.frontEnd_eq, ← clips_iff, hclips, hnormal]
  rcases (chain numerics s.stages ⟨normEntry i, normEntry q⟩).2 with _ | y
  · rfl
  · rw [samplePayload_some, State.answer_two]
    rfl

end Sys2Proof.Machine
end

section
/-!
SUPPORT. The chain: which stages a pair reaches, which pairs emit, and when (43_pipeline.md R145, R146, R147).
-/

namespace Sys2Proof.Machine

/-- A counted-down stage is ready iff its countdown stands at 1 (R123). -/
theorem stgAdd_ready_iff {g : Stage} (h : 1 ≤ g.need) (x : C32) : (stgAdd g x).2 = true ↔ g.need = 1 := by
  rw [stgAdd_ready, decide_eq_true_eq]
  omega

theorem stgAdd_ready_of_need {g : Stage} (h : g.need = 1) (x : C32) : (stgAdd g x).2 = true :=
  (stgAdd_ready_iff h.ge x).2 h

section
variable {nu : Numerics} {gs : List Stage} {k : Nat} {g : Stage}

/-- A stage before which every stage is ready accepts the sample its predecessor computed. -/
theorem chain_getElem?_reached (hg : gs[k]? = some g) (hready : ∀ h ∈ gs.take k, h.need = 1) (x : C32) :
    (chain nu gs x).1[k]? = some (stgAdd g (sampleInto nu gs x k)).1 := by
  induction gs generalizing k x with
  | nil => simp at hg
  | cons g₀ gs ih =>
    cases k with
    | zero =>
      obtain rfl : g₀ = g := by simpa using hg
      rcases hr : (stgAdd g₀ x).2 with _ | _
      · simp [chain_cons_stall hr, sampleInto]
      · simp [chain_cons_ready hr, sampleInto]
    | succ k =>
      obtain ⟨hfirst, hready⟩ := List.forall_mem_cons.1 hready
      rw [chain_cons_ready (stgAdd_ready_of_need hfirst x)]
      exact ih hg hready _

/-- A stage behind one that is not ready is not touched. -/
theorem chain_getElem?_behind_stall (hpos : ∀ h ∈ gs, 1 ≤ h.need) (hg : gs[k]? = some g)
    (hstall : ∃ h ∈ gs.take k, h.need ≠ 1) (x : C32) : (chain nu gs x).1[k]? = some g := by
  induction gs generalizing k x with
  | nil => simp at hg
  | cons g₀ gs ih =>
    cases k with
    | zero => simp at hstall
    | succ k =>
      obtain ⟨hpos₀, hpos⟩ := List.forall_mem_cons.1 hpos
      rcases hr : (stgAdd g₀ x).2 with _ | _
      · rw [chain_cons_stall hr]
        exact hg
      · have hfirst := (stgAdd_ready_iff hpos₀ x).1 hr
        rw [chain_cons_ready hr]
        exact ih hpos hg (by simpa [hfirst] using hstall) _

/-- The emitted sample is what the last stage computes. -/
theorem chain_emitted {x y : C32} (hy : (chain nu gs x).2 = some y) : y = sampleInto nu gs x gs.length := by
  induction gs generalizing x with
  | nil => exact (Option.some.inj hy).symm
  | cons g gs ih =>
    rcases hr : (stgAdd g x).2 with _ | _
    · simp [chain_cons_stall hr] at hy
    · rw [chain_cons_ready hr] at hy
      exact ih hy

end

/-- Settles O24, by the place of the first stage that is not ready. -/
theorem chainIsAShortCircuit : Obligations.ChainIsAShortCircuit := by
  intro nu gs x hpos
  refine ⟨(chain_sameButOneSlot nu gs x).length_eq.symm, ?_, fun y hy => chain_emitted hy⟩
  intro k g hg
  exact ⟨fun hready => chain_getElem?_reached hg hready x, fun hstall => chain_getElem?_behind_stall hpos hg hstall x⟩

/-- The constants and the counters after a pair are computed from the constants and the counters alone. -/
theorem chain_counters (nu nu' : Numerics) (gs : List Stage) (x x' : C32) :
    (chain nu gs x).1.map (fun g => (g.cfg, g.wpos, g.need))
      = (chain nu' gs x').1.map (fun g => (g.cfg, g.wpos, g.need)) := by
  induction gs generalizing x x' with
  | nil => rfl
  | cons g gs ih =>
    have hready : (stgAdd g x').2 = (stgAdd g x).2 := by rw [stgAdd_ready, stgAdd_ready]
    rcases hr : (stgAdd g x).2 with _ | _
    · rw [chain_cons_stall hr, chain_cons_stall (hready.trans hr)]
      simp [stgAdd_need]
    · rw [chain_cons_ready hr, chain_cons_ready (hready.trans hr)]
      simp [stgAdd_need, ih _ (stgCalc nu' (stgAdd g x').1)]

/-- Settles O25: the countdowns alone say whether a pair emits. -/
theorem emissionIsGatedByNeedAlone : Obligations.EmissionIsGatedByNeedAlone := by
  intro nu nu' gs x x' hpos
  have hemits := chain_isSome_iff hpos nu x
  exact ⟨hemits, Bool.eq_iff_iff.2 (hemits.trans (chain_isSome_iff hpos nu' x').symm), chain_counters nu nu' gs x x'⟩

/-- Pair number `a + 1` reaches the end of the chain iff every factor divides what reaches its stage (R147). -/
theorem chain_isSome_iff_dvd {gs : List Stage} {a : Nat} (hpos : ∀ g ∈ gs, 1 ≤ g.period ∧ 1 ≤ g.size)
    (hcount : countedBy a gs = true) (nu : Numerics) (x : C32) :
    (chain nu gs x).2.isSome = true ↔ Cfg.total (gs.map (·.cfg)) ∣ a + 1 := by
  induction gs generalizing a x with
  | nil => simp [chain, Cfg.total]
  | cons g gs ih =>
    obtain ⟨⟨hp, -⟩, hpos⟩ := List.forall_mem_cons.1 hpos
    obtain ⟨-, hneed, hcount⟩ := (countedBy_cons a g gs).1 hcount
    have hready := stgAdd_ready_of_counted hp hneed x
    have htotal : Cfg.total ((g :: gs).map (·.cfg)) = g.period * Cfg.total (gs.map (·.cfg)) := rfl
    rw [htotal]
    by_cases hfull : a % g.period + 1 = g.period
    · have hdvd := (mod_add_one_eq_iff_dvd hp).1 hfull
      rw [chain_cons_ready (hready.trans (decide_eq_true hfull)), ih hpos hcount, ← (div_mod_add_one_of_full hfull).1,
        Nat.dvd_div_iff_mul_dvd hdvd]
    · have hdvd : ¬ g.period ∣ a + 1 := mt (mod_add_one_eq_iff_dvd hp).2 hfull
      rw [chain_cons_stall (hready.trans (decide_eq_false hfull))]
      simp [mt dvd_of_mul_right_dvd hdvd]

/-- Settles O26: the pair is counted by the chain, and emits iff it completes a period of every stage. -/
theorem emissionSchedule : Obligations.EmissionSchedule :=
  fun nu _ x _ hpos hcount => ⟨chain_countedBy hpos hcount nu x, chain_isSome_iff_dvd hpos hcount nu x⟩

end Sys2Proof.Machine
end

section
/-!
SUPPORT. Issuing commands (43_pipeline.md R148, R150): each is performed with its word on the port and answered once.
-/

namespace Sys2Proof.Machine

/-- The state in which an issued command is performed: its word first on the port. -/
abbrev State.offered (s : State) (i : Instr) : State := { s with inbox := .command (encode i) :: s.inbox }

theorem issue_eq {i : Instr} {s t : State} (h : exec i (s.offered i) = .next t) :
    issue i s = (t, t.responses.getLast?) := by
  have hstep : step (s.offered i) = .next t := (step_legal rfl (decodeOfEncodeIsTheCommand i)).trans h
  simp [issue, hstep]

theorem issue_exec (i : Instr) (s : State) : exec i (s.offered i) = .next (issue i s).1 := by
  obtain ⟨t, ht⟩ := exec_answersNext i (s.offered i)
  rw [ht, issue_eq ht]

/-- An issued command gives one response more. -/
theorem issue_responses (i : Instr) (s : State) : ∃ r, (issue i s).1.responses = s.responses ++ [r] := by
  obtain ⟨r, hr⟩ := exec_answered (issue_exec i s)
  exact ⟨r, hr.responses⟩

/-- A FAULTED block stays FAULTED (R170). -/
theorem issue_fault_of_faulted {s : State} (hf : s.fault = true) (i : Instr) : (issue i s).1.fault = true := by
  obtain ⟨-, h⟩ | ⟨hrun, -⟩ | ⟨hrun, -⟩ := exec_cases (issue_exec i s)
  · rw [h]
    exact hf
  · simp [hf] at hrun
  · simp [hf] at hrun

/-! Runs of commands. -/

theorem runCommands_append (is js : List Instr) (s : State) :
    runCommands (is ++ js) s = runCommands js (runCommands is s) := by
  induction is generalizing s with
  | nil => rfl
  | cons i is ih => exact ih _

theorem runCommands_fault_of_faulted {s : State} (hf : s.fault = true) (is : List Instr) :
    (runCommands is s).fault = true := by
  induction is generalizing s with
  | nil => exact hf
  | cons i is ih => exact ih (issue_fault_of_faulted hf i)

/-- A run that ends without a fault had none after its first command. -/
theorem issue_running_of_run {i : Instr} {is : List Instr} {s : State}
    (hf : (runCommands (i :: is) s).fault = false) : (issue i s).1.fault = false :=
  eq_false_of_ne_true fun h => by simp [runCommands, runCommands_fault_of_faulted h is] at hf

theorem runCommands_responses (is : List Instr) (s : State) : s.responses <+: (runCommands is s).responses := by
  induction is generalizing s with
  | nil => exact List.prefix_rfl
  | cons i is ih =>
    obtain ⟨r, hr⟩ := issue_responses i s
    exact (hr ▸ List.prefix_append _ _ : s.responses <+: (issue i s).1.responses).trans (ih _)

/-! The samples among the responses. -/

theorem emissions_append (rs rs' : List Response) : emissions (rs ++ rs') = emissions rs ++ emissions rs' :=
  List.filterMap_append

theorem emissions_concat (rs : List Response) (r : Response) :
    emissions (rs ++ [r]) = emissions rs ++ r.sample.toList := by
  rw [emissions_append, emissions, emissions]
  rcases hr : r.sample with _ | y
  · rw [List.filterMap_cons_none hr]; rfl
  · rw [List.filterMap_cons_some hr]; rfl

/-- The samples given since an earlier state follow those given before it. -/
theorem emissions_of_prefix {rs rs' : List Response} (h : rs <+: rs') :
    emissions rs' = emissions rs ++ emissions (rs'.drop rs.length) := by
  rw [← emissions_append, List.prefix_iff_eq_append.1 h]

@[simp] theorem Response.sample_okResponse (y : Option C32) : (okResponse (samplePayload y)).sample = y := by
  rcases y with _ | y
  · rfl
  · rfl

/-- The one response of a PAIR carries what its chain emits (R142). -/
theorem State.pairBody_responses (s : State) (nu : Numerics) (i q : Byte) :
    (s.pairBody nu i q).responses =
      s.responses ++ [okResponse (samplePayload (chain nu s.stages (normalize nu i q)).2)] := by
  simp [State.pairBody_eq]

end Sys2Proof.Machine
end

section
/-!
SUPPORT. Where END and BEGIN fall between the pairs of a stream has no effect on the stream (43_pipeline.md R148).
-/

namespace Sys2Proof.Machine

/-- Two states that no stream of pairs tells apart: the same delay lines and counters, the same overload registers, and
the same samples emitted so far. -/
structure State.SameStream (s t : State) : Prop where
  stages : s.stages = t.stages
  ovl : s.ovl = t.ovl
  ovc : s.ovc = t.ovc
  emitted : emissions s.responses = emissions t.responses

theorem State.SameStream.trans {s t u : State} (h : s.SameStream t) (h' : t.SameStream u) : s.SameStream u :=
  ⟨h.stages.trans h'.stages, h.ovl.trans h'.ovl, h.ovc.trans h'.ovc, h.emitted.trans h'.emitted⟩

/-- An answer without a sample, to a command that writes none of these registers, is no part of the stream. -/
theorem State.sameStream_respond {s s' : State} {r : Response} (hstages : s'.stages = s.stages)
    (hovl : s'.ovl = s.ovl) (hovc : s'.ovc = s.ovc) (hout : s'.responses = s.responses) (hr : r.sample = none) :
    s.SameStream (s'.respond r) :=
  ⟨hstages.symm, hovl.symm, hovc.symm, by simp [hout, emissions_concat, hr]⟩

theorem issue_endCall_sameStream (s : State) : s.SameStream (issue .endCall s).1 := by
  obtain ⟨-, h⟩ | ⟨-, c, h⟩ | ⟨-, hp⟩ := exec_cases (issue_exec .endCall s)
  · rw [h]; exact State.sameStream_respond rfl rfl rfl rfl rfl
  · rw [h]; exact State.sameStream_respond rfl rfl rfl rfl rfl
  · generalize (issue .endCall s).1 = t at hp
    cases hp
    exact State.sameStream_respond (by simp) (by simp) (by simp) (by simp) rfl

theorem issue_beginCall_sameStream (cap : BitVec 24) (s : State) : s.SameStream (issue (.beginCall cap) s).1 := by
  obtain ⟨-, h⟩ | ⟨-, c, h⟩ | ⟨-, hp⟩ := exec_cases (issue_exec (.beginCall cap) s)
  · rw [h]; exact State.sameStream_respond rfl rfl rfl rfl rfl
  · rw [h]; exact State.sameStream_respond rfl rfl rfl rfl rfl
  · generalize (issue (.beginCall cap) s).1 = t at hp
    cases hp
    exact State.sameStream_respond rfl rfl rfl rfl rfl

/-- What a PAIR that does not fault adds to the stream is computed from the stages, `ovl` and `ovc` alone (R141). -/
theorem State.SameStream.issue_pair {s t : State} (h : s.SameStream t) {i q : Byte}
    (hs : (issue (.pair i q) s).1.fault = false) (ht : (issue (.pair i q) t).1.fault = false) :
    (issue (.pair i q) s).1.SameStream (issue (.pair i q) t).1 := by
  rw [exec_pair_of_running (issue_exec _ s) hs, exec_pair_of_running (issue_exec _ t) ht]
  constructor
  · simp only [State.pairBody_stages, h.stages]
  · simp only [State.pairBody_ovl, h.ovl]
  · simp only [State.pairBody_ovc, h.ovc]
  · simp only [State.pairBody_responses, emissions_concat, h.emitted, h.stages]

/-- The commands of a stream of pairs. -/
abbrev pairCommands (ps : List (Byte × Byte)) : List Instr := ps.map fun p => .pair p.1 p.2

theorem State.SameStream.run_pairs {s t : State} (h : s.SameStream t) {ps : List (Byte × Byte)}
    (hs : (runCommands (pairCommands ps) s).fault = false) (ht : (runCommands (pairCommands ps) t).fault = false) :
    (runCommands (pairCommands ps) s).SameStream (runCommands (pairCommands ps) t) := by
  induction ps generalizing s t with
  | nil => exact h
  | cons p ps ih => exact ih (h.issue_pair (issue_running_of_run hs) (issue_running_of_run ht)) hs ht

/-- Settles O55: END and BEGIN leave the stream as it is, and the pairs behind them add the same to it. -/
theorem crossCallContinuity : Obligations.CrossCallContinuity := by
  intro s t u xs ys cap ht hu hft hfu
  have hbefore_t : s.responses <+: t.responses := ht ▸ runCommands_responses _ s
  have hbefore_u : s.responses <+: u.responses := hu ▸ runCommands_responses _ s
  have hsame : u.SameStream t := by
    rw [runCommands_append, runCommands_append] at ht
    rw [List.map_append, runCommands_append] at hu
    subst ht hu
    exact ((issue_endCall_sameStream _).trans (issue_beginCall_sameStream cap _)).run_pairs hfu hft
  have hemitted := hsame.emitted
  rw [emissions_of_prefix hbefore_t, emissions_of_prefix hbefore_u] at hemitted
  exact ⟨hsame.stages.symm, hsame.ovl.symm, hsame.ovc.symm, (List.append_cancel_left hemitted).symm⟩

end Sys2Proof.Machine
end

section
/-!
SUPPORT. DECIMATE and the emissions of a call (43_pipeline.md R147, R149, R150).
-/

namespace Sys2Proof.Machine

/-! The driver. -/

@[simp] theorem Response.err_okResponse (payload : List Word) : (okResponse payload).err = false :=
  responseHeader_err false 0x00#8 payload.length

@[simp] theorem Response.payload_okResponse (payload : List Word) : (okResponse payload).payload = payload := rfl

@[simp] theorem Response.sample_okResponse_one (a : Word) : (okResponse [a]).sample = none := rfl

@[simp] theorem Response.sample_okResponse_none : (okResponse []).sample = none := rfl

/-- An issued command that passes its checks, with its answer. -/
theorem issue_of_performed {i : Instr} {s t : State} {rs : List Response} {r : Response} (hf : s.fault = false)
    (hp : Performed (s.offered i) i t) (hr : t.responses = rs ++ [r]) : issue i s = (t, some r) := by
  rw [issue_eq (exec_of_performed hf hp), hr, List.getLast?_concat]

/-- A command answered without ERR, with more commands behind it. -/
theorem issueAll_cons {i : Instr} {is : List Instr} {s t : State} {r : Response} (hi : issue i s = (t, some r))
    (herr : r.err = false) (hmore : is ≠ []) (out : List C32) :
    issueAll (i :: is) s out = issueAll is t (out ++ r.sample.toList) := by
  obtain ⟨i', is, rfl⟩ := List.exists_cons_of_ne_nil hmore
  rw [issueAll, hi]
  simp [herr]

/-- The last command. -/
theorem issueAll_singleton {i : Instr} {s t : State} {r : Response} (hi : issue i s = (t, some r))
    (out : List C32) : issueAll [i] s out = (t, out ++ r.sample.toList, some r) := by
  simp [issueAll, hi]

/-- An input buffer of even length is one PAIR for every two bytes (R54). -/
theorem pairsOf_of_even {bytes : List Byte} {n : Nat} (h : bytes.length = 2 * n) :
    ∃ ps : List (Byte × Byte), pairsOf bytes = some (pairCommands ps) ∧ ps.length = n := by
  induction n generalizing bytes with
  | zero =>
    obtain rfl := List.length_eq_zero_iff.1 h
    exact ⟨[], rfl, rfl⟩
  | succ n ih =>
    match bytes with
    | i :: q :: rest =>
      obtain ⟨ps, hps, hlen⟩ := ih (bytes := rest) (by simp at h; omega)
      exact ⟨(i, q) :: ps, by simp [pairsOf, hps], by simp [hlen]⟩
    | [_] => simp at h; omega

theorem decimate_of_answered {cap : BitVec 24} {bytes : List Byte} {is : List Instr} {s t : State} {out : List C32}
    {r : Response} (hbytes : pairsOf bytes = some is)
    (hrun : issueAll (.beginCall cap :: (is ++ [.endCall])) s [] = (t, out, some r)) :
    decimate cap bytes s = if r.err then (t, .fault r.cause) else (t, .done out (r.payload.headD 0#32)) := by
  simp [decimate, expandDecimate, hbytes, hrun]

/-! The count of emissions. -/

/-- One pair more is one emission more iff `TOTAL` divides its number. -/
theorem emissionCount_succ (cfg : Cfg) (p k : Nat) :
    emissionCount cfg p (k + 1) = emissionCount cfg p k + if Cfg.total cfg ∣ p + k + 1 then 1 else 0 := by
  have hle : p / Cfg.total cfg ≤ (p + k) / Cfg.total cfg := Nat.div_le_div_right (Nat.le_add_right p k)
  rw [emissionCount, emissionCount, ← add_assoc, Nat.succ_div]
  omega

theorem emissionCount_mono (cfg : Cfg) (p : Nat) {k n : Nat} (h : k ≤ n) :
    emissionCount cfg p k ≤ emissionCount cfg p n :=
  Nat.sub_le_sub_right (Nat.div_le_div_right (Nat.add_le_add_left h p)) _

/-! A call under way. -/

theorem State.phase_eq_idle_iff (s : State) : s.phase = .idle ↔ s.fault = false ∧ s.inCall = false := by
  unfold State.phase
  rcases s.fault with _ | _
  · rcases s.inCall with _ | _ <;> simp
  · simp

/-- The state after `k` pairs of a call with capacity `cap`, which was opened after `p` pairs since reset. -/
structure State.MidCall (cfg : Cfg) (cap : BitVec 24) (p k : Nat) (s : State) : Prop where
  running : s.fault = false
  calling : s.inCall = true
  cfg_eq : s.cfg = cfg
  cap_eq : s.cap = cap
  wf : ∀ g ∈ s.stages, g.Wf
  counted : countedBy (p + k) s.stages = true
  npairs : s.npairs.toNat = k
  outLen : s.outLen.toNat = emissionCount cfg p k

section
variable {cfg : Cfg} {cap : BitVec 24} {p k : Nat} {s : State}

/-- The call does not read the port. -/
theorem State.MidCall.offered (h : s.MidCall cfg cap p k) (i : Instr) : (s.offered i).MidCall cfg cap p k :=
  { h with }

theorem State.MidCall.period_size_pos (h : s.MidCall cfg cap p k) : ∀ g ∈ s.stages, 1 ≤ g.period ∧ 1 ≤ g.size :=
  fun g hg => Stage.period_size_pos_of_wf (h.wf g hg)

/-- The next pair of the call emits iff the schedule says so (R147). -/
theorem State.MidCall.chain_isSome_iff_dvd (h : s.MidCall cfg cap p k) (x : C32) :
    (chain numerics s.stages x).2.isSome = true ↔ Cfg.total cfg ∣ p + k + 1 :=
  h.cfg_eq ▸ Machine.chain_isSome_iff_dvd h.period_size_pos h.counted numerics x

theorem State.MidCall.emissionCount_succ (h : s.MidCall cfg cap p k) (x : C32) :
    emissionCount cfg p (k + 1) = emissionCount cfg p k + (chain numerics s.stages x).2.toList.length := by
  simp only [Machine.emissionCount_succ, ← h.chain_isSome_iff_dvd x]
  rcases (chain numerics s.stages x).2 with _ | y
  · rfl
  · rfl

/-- A PAIR that would emit has a place, if the capacity allows the emission it makes. -/
theorem State.MidCall.fits (h : s.MidCall cfg cap p k) (hcap : emissionCount cfg p (k + 1) ≤ cap.toNat)
    (hemit : s.wouldEmit = true) : s.outLen ≠ s.cap := by
  intro hfull
  have hsome := (chain_isSome_iff (fun g hg => Stage.need_pos_of_wf (h.wf g hg)) numerics C32.zero).2
    (s.wouldEmit_iff.1 hemit)
  have hone : emissionCount cfg p (k + 1) = emissionCount cfg p k + 1 := by
    rw [Machine.emissionCount_succ, if_pos ((h.chain_isSome_iff_dvd _).1 hsome)]
  rw [hone, ← h.outLen, hfull, h.cap_eq] at hcap
  omega

theorem State.MidCall.room (h : s.MidCall cfg cap p k) (hlong : k + 1 ≤ 2 ^ 31 - 1) : s.npairs ≠ maxPairs := by
  intro hmax
  have hk : maxPairs.toNat = k := hmax ▸ h.npairs
  have hlast : maxPairs.toNat = 2 ^ 31 - 1 := rfl
  omega

/-- The body of a PAIR counts the pair and the emission it makes; neither count wraps. -/
theorem State.MidCall.pairBody (h : s.MidCall cfg cap p k) (hlong : k + 1 ≤ 2 ^ 31 - 1)
    (hcap : emissionCount cfg p (k + 1) ≤ cap.toNat) (i q : Byte) :
    (s.pairBody numerics i q).MidCall cfg cap p (k + 1) where
  running := by simp [h.running]
  calling := by simp [h.calling]
  cfg_eq := (s.pairBody_cfg numerics i q).trans h.cfg_eq
  cap_eq := by simp [h.cap_eq]
  wf := s.pairBody_stages numerics i q ▸ chain_wf h.wf numerics _
  counted := s.pairBody_stages numerics i q ▸ chain_countedBy h.period_size_pos h.counted numerics _
  npairs := by
    have hk := h.npairs
    rw [State.pairBody_npairs]
    bv_omega
  outLen := by
    have hlen := h.outLen
    have hcount := h.emissionCount_succ (normalize numerics i q)
    have hlt := cap.isLt
    rw [State.pairBody_outLen]
    generalize (chain numerics s.stages (normalize numerics i q)).2 = y at hcount ⊢
    rcases y with _ | y
    · exact hlen.trans hcount.symm
    · rw [Option.toList_some, List.length_singleton] at hcount
      rw [if_pos Option.isSome_some]
      bv_omega

/-- One PAIR of the call: it is performed, and its answer carries the emission the schedule gives it. -/
theorem State.MidCall.issue_pair (h : s.MidCall cfg cap p k) (hlong : k + 1 ≤ 2 ^ 31 - 1)
    (hcap : emissionCount cfg p (k + 1) ≤ cap.toNat) (i q : Byte) :
    ∃ t y, issue (.pair i q) s = (t, some (okResponse (samplePayload y))) ∧ t.MidCall cfg cap p (k + 1)
      ∧ emissionCount cfg p (k + 1) = emissionCount cfg p k + y.toList.length := by
  have hperformed : Performed (s.offered (.pair i q)) (.pair i q) ((s.offered (.pair i q)).pairBody numerics i q) :=
    .pair i q h.calling (h.room hlong) (h.fits hcap)
  exact ⟨_, _, issue_of_performed h.running hperformed (State.pairBody_responses _ numerics i q),
    (h.offered _).pairBody hlong hcap i q, h.emissionCount_succ _⟩

/-- The pairs of the call one after another, with more commands behind them (R150). -/
theorem State.MidCall.issueAll_pairs (h : s.MidCall cfg cap p k) {ps : List (Byte × Byte)} {is : List Instr}
    {out : List C32} (hmore : is ≠ []) (hlong : k + ps.length ≤ 2 ^ 31 - 1)
    (hcap : emissionCount cfg p (k + ps.length) ≤ cap.toNat) (hout : out.length = emissionCount cfg p k) :
    ∃ t out', issueAll (pairCommands ps ++ is) s out = issueAll is t out' ∧ t.MidCall cfg cap p (k + ps.length)
      ∧ out'.length = emissionCount cfg p (k + ps.length) := by
  induction ps generalizing k s out with
  | nil => exact ⟨s, out, rfl, h, hout⟩
  | cons pair ps ih =>
    rw [List.length_cons, Nat.add_comm ps.length, ← Nat.add_assoc] at hlong hcap ⊢
    obtain ⟨t, y, hissue, ht, hcount⟩ := h.issue_pair (Nat.le_of_add_right_le hlong)
      ((emissionCount_mono cfg p (Nat.le_add_right _ _)).trans hcap) pair.1 pair.2
    obtain ⟨t', out', hrest, ht', hout'⟩ := ih ht hlong hcap (out := out ++ y.toList) (by simp [hout, hcount])
    refine ⟨t', out', ?_, ht', hout'⟩
    rw [← hrest, pairCommands, List.map_cons, List.cons_append,
      issueAll_cons hissue (Response.err_okResponse _) (by simp [hmore]), Response.sample_okResponse]

/-- BEGIN opens the call. -/
theorem issue_beginCall_midCall (hf : s.fault = false) (hc : s.inCall = false) (hwf : ∀ g ∈ s.stages, g.Wf)
    (hcount : countedBy p s.stages = true) (cap : BitVec 24) :
    ∃ t, issue (.beginCall cap) s = (t, some (okResponse [])) ∧ t.MidCall s.cfg cap p 0 :=
  ⟨_, issue_of_performed hf (.beginCall cap hc) rfl,
    { running := hf, calling := rfl, cfg_eq := rfl, cap_eq := rfl, wf := hwf, counted := hcount, npairs := rfl
      outLen := (Nat.sub_self _).symm }⟩

/-- END closes the call and answers the number of its emissions (R143). -/
theorem State.MidCall.issue_endCall (h : s.MidCall cfg cap p k) :
    ∃ t, issue .endCall s = (t, some (okResponse [BitVec.ofNat 32 (emissionCount cfg p k)])) ∧ t.phase = .idle
      ∧ countedBy (p + k) t.stages = true := by
  have hlen : s.outLen.zeroExtend 32 = BitVec.ofNat 32 (emissionCount cfg p k) := by
    rw [← h.outLen, BitVec.ofNat_toNat]
  rw [← hlen]
  refine ⟨_, issue_of_performed h.running (.endCall h.calling) rfl, ?_, ?_⟩
  · simp [State.phase, h.running]
  · simpa using h.counted

end

/-- Settles O57: the pairs keep the schedule of the call, from BEGIN to END. -/
theorem decimateEmitsTheScheduledSamples : Obligations.DecimateEmitsTheScheduledSamples := by
  intro cap bytes s p n hinv _ hphase hcount hbytes hn hcap
  obtain ⟨hf, hc⟩ := (State.phase_eq_idle_iff s).1 hphase
  obtain ⟨-, -, hwf, -⟩ := (State.inv_iff_of_running hf).1 hinv
  obtain ⟨ps, hps, rfl⟩ := pairsOf_of_even hbytes
  rw [← Nat.zero_add ps.length] at hn hcap ⊢
  obtain ⟨s₁, hbegin, hcall⟩ := issue_beginCall_midCall hf hc hwf hcount cap
  obtain ⟨s₂, out, hpairs, hcall, hout⟩ := hcall.issueAll_pairs (is := [.endCall]) (out := []) (by simp) hn hcap
    (Nat.sub_self _).symm
  obtain ⟨t, hend, hidle, hcount'⟩ := hcall.issue_endCall
  refine ⟨t, out, ?_, hout, hidle, hcount'⟩
  have hrun := (issueAll_cons hbegin (Response.err_okResponse []) (by simp) []).trans
    (hpairs.trans (issueAll_singleton hend out))
  simp [decimate_of_answered hps hrun]

end Sys2Proof.Machine
end

section
/-!
SUPPORT. The five read commands (44_accessors.md): each is a `State.whenIdle` of one answer, so R174 settles what it
does in a call once for all five.
-/

namespace Sys2Proof.Machine

/-- A command legal in IDLE only, in a block that is not FAULTED: `body` is its effect, and in a call it raises
PROTOCOL (R174). -/
theorem exec_of_eq_whenIdle {i : Instr} {s t : State} {body : State → State}
    (hexec : exec i s = .next (s.whenIdle body)) (hbody : body s = t) (hf : s.fault = false) :
    (s.inCall = false → exec i s = .next t)
      ∧ (s.inCall = true →
          exec i s = .next
            { s with
              fault := true, cause := 0x11#8, inbox := s.inbox.tail
              responses := s.responses ++ [⟨0x80110000#32, []⟩] }) := by
  rw [hexec]
  constructor
  · intro hc
    rw [State.whenIdle_idle hf hc, hbody]
  · intro hc
    rw [State.whenIdle_inCall hf hc, State.raise_protocol]

/-- R30: `TOTAL` is the product of the factors. -/
theorem Cfg.total_eq_prod (cfg : Cfg) : Cfg.total cfg = (cfg.map (·.factor)).prod := by
  induction cfg with
  | nil => rfl
  | cons c cs ih => rw [Cfg.total, ih, List.map_cons, List.prod_cons]

theorem State.total_eq_prod (s : State) : s.total = (s.stages.map (fun g => g.cfg.factor)).prod := by
  rw [State.total, Cfg.total_eq_prod, State.cfg, List.map_map]
  rfl

theorem zextBit_eq_ite (b : Bool) : zextBit b = if b then 0x00000001#32 else 0x00000000#32 := by
  cases b <;> rfl

/-- Settles O41: the answer is `TOTAL`, which is the product of the factors. -/
theorem rdtotAnswersTheProduct : Obligations.RdtotAnswersTheProduct := by
  intro s
  refine exec_of_eq_whenIdle rfl ?_
  rw [State.answer_one, State.total_eq_prod]

/-- Settles O42: the answer is `mean_i`. -/
theorem rdmiAnswersTheMean : Obligations.RdmiAnswersTheMean :=
  fun s => exec_of_eq_whenIdle rfl (s.answer_one s.meanI)

/-- Settles O43: the answer is `mean_q`. -/
theorem rdmqAnswersTheMean : Obligations.RdmqAnswersTheMean :=
  fun s => exec_of_eq_whenIdle rfl (s.answer_one s.meanQ)

/-- Settles O44: the answer is `ovl` as it was, given from the state with `ovl` cleared. -/
theorem rdovlReadsAndClears : Obligations.RdovlReadsAndClears := by
  intro s
  refine exec_of_eq_whenIdle rfl ?_
  rw [State.answer_one, zextBit_eq_ite]

/-- Settles O45: the answer is `ovc` as it was, given from the state with `ovc` zeroed. -/
theorem rdovcReadsAndResets : Obligations.RdovcReadsAndResets :=
  fun s => exec_of_eq_whenIdle rfl (State.answer_one { s with ovc := 0#32 } s.ovc)

end Sys2Proof.Machine
end

section
/-!
SUPPORT. The checks of one command word in the order of 60_exceptions.md R178, each said once, and what a fault leaves
of the state (R170, R179).
-/

namespace Sys2Proof.Machine

/-- Settles O9: the step with no input is the identity. -/
theorem emptyPortHoldsTheState : Obligations.EmptyPortHoldsTheState :=
  fun _ hin => step_empty hin

/-! Taking a fault: the whole next state. -/

theorem State.raise_of_errorResponse {c : Cause} {r : Response} (hr : errorResponse c.code = r) (s : State) :
    s.raise c =
      { s with fault := true, cause := c.code, inbox := s.inbox.tail, responses := s.responses ++ [r] } := by
  rw [← hr]; rfl

/-- R179: raising writes `fault` and `cause`; of the rest only the ports move. -/
theorem State.raise_precise {s : State} {x : PortInput} {rest : List PortInput} (hin : s.inbox = x :: rest)
    (c : Cause) :
    s.raise c =
      { s with fault := true, cause := (s.raise c).cause, inbox := rest, responses := (s.raise c).responses } := by
  obtain rfl : s.inbox.tail = rest := congrArg List.tail hin
  rfl

/-! Check (1): the block is FAULTED. -/

theorem exec_of_faulted {s : State} (hf : s.fault = true) (i : Instr) : exec i s = .next s.answerFaulted := by
  obtain ⟨t, ht⟩ := exec_answersNext i s
  obtain ⟨-, rfl⟩ | ⟨hrun, -⟩ | ⟨hrun, -⟩ := exec_cases ht
  · exact ht
  · simp [hf] at hrun
  · simp [hf] at hrun

theorem step_command_of_faulted {s : State} {w : Word} {rest : List PortInput} (hin : s.inbox = .command w :: rest)
    (hf : s.fault = true) : step s = .next s.answerFaulted := by
  match hd : decode w with
  | .ok i => exact (step_legal hin hd).trans (exec_of_faulted hf i)
  | .error _ => exact (step_illegal hin hd).trans (congrArg Host.Outcome.next (State.unlessFaulted_of_faulted hf _))

/-! Check (2): the word is illegal. -/

theorem step_illegal_of_running {s : State} {w : Word} {rest : List PortInput} {e : Illegal}
    (hin : s.inbox = .command w :: rest) (hd : decode w = .error e) (hf : s.fault = false) :
    step s = .next (s.raise .illegalCommand) :=
  (step_illegal hin hd).trans (congrArg Host.Outcome.next (State.unlessFaulted_of_running hf _))

/-! Check (3): the command is not legal in the phase. -/

theorem exec_of_not_legal {i : Instr} {s : State} (hf : s.fault = false) (hl : legalIn i s.inCall = false) :
    exec i s = .next (s.raise .protocol) := by
  cases i with
  | nop => cases hl
  | pair | endCall => exact congrArg Host.Outcome.next (State.whenInCall_idle hf hl _)
  | beginCall | rdtot | rdmi | rdmq | rdovl | rdovc =>
    exact congrArg Host.Outcome.next (State.whenIdle_inCall hf (by simpa [legalIn] using hl) _)

/-! Checks (4) and (5): PAIR in a call. -/

theorem exec_pair_inCall {s : State} (hf : s.fault = false) (hc : s.inCall = true) (i q : Byte) :
    exec (.pair i q) s = .next (s.pairChecked numerics i q) :=
  congrArg Host.Outcome.next (State.whenInCall_inCall hf hc _)

theorem eq_maxPairs_iff (n : BitVec 31) : n = maxPairs ↔ n.toNat = 2 ^ 31 - 1 :=
  BitVec.toNat_inj.symm

theorem exec_pair_of_maxPairs {s : State} (hf : s.fault = false) (hc : s.inCall = true)
    (hn : s.npairs = maxPairs) (i q : Byte) : exec (.pair i q) s = .next (s.raise .callTooLong) := by
  rw [exec_pair_inCall hf hc, State.pairChecked, if_pos hn]

theorem exec_pair_of_full {s : State} (hf : s.fault = false) (hc : s.inCall = true) (hn : s.npairs ≠ maxPairs)
    (hemit : s.wouldEmit = true) (hfull : s.outLen = s.cap) (i q : Byte) :
    exec (.pair i q) s = .next (s.raise .outputCapacity) := by
  rw [exec_pair_inCall hf hc, State.pairChecked, if_neg hn, if_pos (by simp [hemit, hfull])]

/-! No check stops the command. -/

theorem exists_performed_of_legal {i : Instr} {s : State} (hl : legalIn i s.inCall = true)
    (hpair : ∀ a b, i ≠ .pair a b) : ∃ t, Performed s i t := by
  have hidle : (!s.inCall) = true → s.inCall = false := by simp
  cases i with
  | nop => exact ⟨_, .nop⟩
  | beginCall cap => exact ⟨_, .beginCall cap (hidle hl)⟩
  | pair a b => exact absurd rfl (hpair a b)
  | endCall => exact ⟨_, .endCall hl⟩
  | rdtot => exact ⟨_, .rdtot (hidle hl)⟩
  | rdmi => exact ⟨_, .rdmi (hidle hl)⟩
  | rdmq => exact ⟨_, .rdmq (hidle hl)⟩
  | rdovl => exact ⟨_, .rdovl (hidle hl)⟩
  | rdovc => exact ⟨_, .rdovc (hidle hl)⟩

theorem Performed.fault_cause {i : Instr} {s t : State} (hp : Performed s i t) :
    t.fault = s.fault ∧ t.cause = s.cause := by
  cases hp with
  | pair | endCall => simp
  | nop | beginCall | rdtot | rdmi | rdmq | rdovl | rdovc => exact ⟨rfl, rfl⟩

/-- The ends of a command in a block that is not FAULTED, with the cause of each fault. -/
theorem exec_of_running {i : Instr} {s t : State} (hf : s.fault = false) (h : exec i s = .next t) :
    (legalIn i s.inCall = false ∧ t = s.raise .protocol)
      ∨ ((∃ a b, i = .pair a b) ∧ (t = s.raise .outputCapacity ∨ t = s.raise .callTooLong))
      ∨ Performed s i t := by
  rcases hl : legalIn i s.inCall with _ | _
  · rw [exec_of_not_legal hf hl] at h
    exact .inl ⟨rfl, (Host.Outcome.next.inj h).symm⟩
  · by_cases hpair : ∃ a b, i = .pair a b
    · obtain ⟨a, b, rfl⟩ := hpair
      rw [exec_pair_inCall hf hl] at h
      obtain rfl := Host.Outcome.next.inj h
      obtain ⟨-, h⟩ | ⟨-, -, h⟩ | ⟨hn, he, h⟩ := s.pairChecked_cases numerics a b
      · exact .inr (.inl ⟨⟨a, b, rfl⟩, .inr h⟩)
      · exact .inr (.inl ⟨⟨a, b, rfl⟩, .inl h⟩)
      · exact .inr (.inr (h ▸ .pair a b hl hn (by simpa using he)))
    · obtain ⟨u, hu⟩ := exists_performed_of_legal hl (fun a b hi => hpair ⟨a, b, hi⟩)
      obtain rfl := Host.Outcome.next.inj ((exec_of_performed hf hu).symm.trans h)
      exact .inr (.inr hu)

/-! The obligations. -/

/-- Settles O15, by check (2). -/
theorem illegalWordRaisesIllegalCommand : Obligations.IllegalWordRaisesIllegalCommand := by
  intro s w rest e hin hd hf
  rw [step_illegal_of_running hin hd hf, State.raise_of_errorResponse errorResponse_illegalCommand, hin]
  rfl

/-- Settles O22, by check (5). -/
theorem pairIntoAFullBufferRaisesOutputCapacity : Obligations.PairIntoAFullBufferRaisesOutputCapacity := by
  intro i q s hf hc hn hneed hfull
  rw [exec_pair_of_full hf hc (mt (eq_maxPairs_iff _).1 hn) (s.wouldEmit_iff.2 hneed) hfull,
    State.raise_of_errorResponse errorResponse_outputCapacity]
  rfl

/-- Settles O23, by check (4). -/
theorem pairBeyondTheCountRaisesCallTooLong : Obligations.PairBeyondTheCountRaisesCallTooLong := by
  intro i q s hf hc hn
  rw [exec_pair_of_maxPairs hf hc ((eq_maxPairs_iff _).2 hn), State.raise_of_errorResponse errorResponse_callTooLong]
  rfl

/-- Settles O11: a FAULTED block is left neither by an empty port nor by a command word, only by a reset event. -/
theorem faultedBlockAnswersTheStoredCause : Obligations.FaultedBlockAnswersTheStoredCause := by
  refine ⟨fun s c => State.raise_of_errorResponse (errorResponse_eq c.code) s, ?_, ?_⟩
  · intro s w rest hin hf
    rw [step_command_of_faulted hin hf, State.answerFaulted_eq, hin]
    rfl
  · intro s t h hf ht
    match hin : s.inbox with
    | [] =>
      obtain rfl := Host.Outcome.next.inj ((step_empty hin).symm.trans h)
      simp [hf] at ht
    | .reset cfg :: rest => exact ⟨cfg, rest, rfl⟩
    | .command w :: rest =>
      obtain rfl := Host.Outcome.next.inj ((step_command_of_faulted hin hf).symm.trans h)
      simp [hf] at ht

/-- A command word that takes the block to FAULTED raises one of the four causes of R173 to R177. -/
theorem step_raises {s t : State} {w : Word} {rest : List PortInput} (hin : s.inbox = .command w :: rest)
    (h : step s = .next t) (hf : s.fault = false) (ht : t.fault = true) :
    ∃ c, t = s.raise c ∧ c ∈ [Cause.illegalCommand, .protocol, .outputCapacity, .callTooLong] := by
  match hd : decode w with
  | .error _ =>
    rw [step_illegal_of_running hin hd hf] at h
    exact ⟨_, (Host.Outcome.next.inj h).symm, by simp⟩
  | .ok i =>
    rw [step_legal hin hd] at h
    obtain ⟨-, hr⟩ | ⟨-, hr | hr⟩ | hp := exec_of_running hf h
    · exact ⟨_, hr, by simp⟩
    · exact ⟨_, hr, by simp⟩
    · exact ⟨_, hr, by simp⟩
    · obtain ⟨hfault, -⟩ := hp.fault_cause
      simp [hfault, hf] at ht

/-- Settles O12: the step raises one of four causes, and raising is precise. -/
theorem faultsArePrecise : Obligations.FaultsArePrecise := by
  intro s t w rest hin h hf ht
  obtain ⟨c, rfl, hc⟩ := step_raises hin h hf ht
  exact ⟨State.raise_precise hin c, List.mem_map_of_mem (f := Cause.code) hc⟩

/-- Settles O14, by checks (1) and (3), and the ends of a command behind them. -/
theorem legalityTable : Obligations.LegalityTable := by
  intro i s
  refine ⟨?_, ?_, ?_⟩
  · intro hf hl
    rw [exec_of_not_legal hf hl, State.raise_protocol]
  · intro hf hl
    obtain ⟨t, ht⟩ := exec_answersNext i s
    refine ⟨t, ht, ?_⟩
    obtain ⟨hl', -⟩ | ⟨hpair, rfl | rfl⟩ | hp := exec_of_running hf ht
    · simp [hl] at hl'
    · exact .inr ⟨hpair, rfl, .inl rfl⟩
    · exact .inr ⟨hpair, rfl, .inr rfl⟩
    · obtain ⟨hfault, -⟩ := hp.fault_cause
      exact .inl (hfault.trans hf)
  · intro hf
    rw [exec_of_faulted hf, State.answerFaulted_eq]

theorem fault_cause_of_raise {x : Host.Outcome State Fault Refusal} {s t : State} {c : Cause} (h : x = .next t)
    (hr : x = .next (s.raise c)) : t.fault = true ∧ t.cause = c.code := by
  obtain rfl := Host.Outcome.next.inj (hr.symm.trans h)
  exact ⟨rfl, rfl⟩

theorem fault_cause_of_performed {i : Instr} {s t u : State} (hf : s.fault = false) (h : exec i s = .next t)
    (hp : Performed s i u) : t.fault = false ∧ t.cause = s.cause := by
  obtain rfl := Host.Outcome.next.inj ((exec_of_performed hf hp).symm.trans h)
  obtain ⟨hfault, hcause⟩ := hp.fault_cause
  exact ⟨hfault.trans hf, hcause⟩

/-- Settles O13, check by check. -/
theorem checksOfACommandWordInOrder : Obligations.ChecksOfACommandWordInOrder := by
  intro s t w rest hin h
  constructor
  · intro hf
    obtain rfl := Host.Outcome.next.inj ((step_command_of_faulted hin hf).symm.trans h)
    exact ⟨hf, rfl⟩
  · intro hf
    have hexec : ∀ {i}, decode w = .ok i → exec i s = .next t := fun hd => (step_legal hin hd).symm.trans h
    refine ⟨?_, ?_, ?_, ?_⟩
    · exact fun e hd => fault_cause_of_raise h (step_illegal_of_running hin hd hf)
    · exact fun i hd hl => fault_cause_of_raise (hexec hd) (exec_of_not_legal hf hl)
    · intro i q hd hc
      simp only [ne_eq, ← eq_maxPairs_iff, ← State.wouldEmit_iff]
      refine ⟨?_, ?_, ?_⟩
      · exact fun hn => fault_cause_of_raise (hexec hd) (exec_pair_of_maxPairs hf hc hn i q)
      · exact fun hn hemit hfull => fault_cause_of_raise (hexec hd) (exec_pair_of_full hf hc hn hemit hfull i q)
      · exact fun hn hroom => fault_cause_of_performed hf (hexec hd) (.pair i q hc hn (not_and.1 hroom))
    · intro i hd hl hpair
      obtain ⟨u, hu⟩ := exists_performed_of_legal hl hpair
      exact fault_cause_of_performed hf (hexec hd) hu

end Sys2Proof.Machine
end

section
/-!
SUPPORT. Which cause the checks of a configuration give, and the reset event that records it (60_exceptions.md R172,
10_state.md R42).
-/

namespace Sys2Proof.Machine

/-- A check (2) cause is about a stage. -/
theorem stageCause_cases {cfg : Cfg} {c : Cause} (h : stageCause cfg = some c) :
    c = .cfgZeroFactor ∨ c = .cfgNoTaps := by
  induction cfg with
  | nil => cases h
  | cons d ds ih =>
    rw [stageCause] at h
    split at h
    · exact .inl (Option.some.inj h).symm
    · split at h
      · exact .inr (Option.some.inj h).symm
      · exact ih h

/-- Stages that pass check (2) are passed over. -/
theorem stageCause_append {pre : Cfg} (hpre : ∀ d ∈ pre, d.factor ≠ 0 ∧ d.taps ≠ []) (cfg : Cfg) :
    stageCause (pre ++ cfg) = stageCause cfg := by
  induction pre with
  | nil => rfl
  | cons d pre ih =>
    obtain ⟨⟨hfactor, htaps⟩, hpre⟩ := List.forall_mem_cons.1 hpre
    rw [List.cons_append, stageCause, if_neg hfactor, if_neg (mt List.length_eq_zero_iff.1 htaps), ih hpre]

theorem cfgCause_of_stageCause {cfg : Cfg} {c : Cause} (h : stageCause cfg = some c) : cfgCause cfg = some c := by
  cases cfg with
  | nil => cases h
  | cons d ds => simp [cfgCause, h]

theorem cfgCause_of_outOfRange {cfg : Cfg} (hne : cfg ≠ []) (hstages : stageCause cfg = none)
    (hrange : outOfRange cfg = true) : cfgCause cfg = some .cfgRange := by
  simp [cfgCause, hne, hstages, hrange]

/-- The four configuration causes of R171. -/
theorem cfgCause_mem {cfg : Cfg} {c : Cause} (h : cfgCause cfg = some c) :
    c ∈ [Cause.cfgZeroFactor, .cfgNoTaps, .cfgNoStages, .cfgRange] := by
  rw [cfgCause] at h
  split at h
  · obtain rfl := Option.some.inj h
    simp
  · split at h
    next hs =>
      obtain rfl := Option.some.inj h
      obtain rfl | rfl := stageCause_cases hs <;> simp
    next =>
      split at h
      · obtain rfl := Option.some.inj h
        simp
      · cases h

/-- R172: a reset event whose configuration fails a check leaves the block FAULTED with the cause of that check. -/
theorem step_reset_of_cfgCause {s : State} {cfg : Cfg} {rest : List PortInput} {c : Cause}
    (hin : s.inbox = .reset cfg :: rest) (hc : cfgCause cfg = some c) :
    ∃ t, step s = .next t ∧ t.fault = true ∧ t.cause = c.code := by
  have hrejected : State.construct cfg s.draws = State.rejected cfg c s.draws := by simp [State.construct, hc]
  refine ⟨_, step_reset hin, ?_⟩
  rw [State.hostReset, hrejected]
  exact ⟨rfl, rfl⟩

/-- Settles O50, by the cause of each check. -/
theorem invalidConfigurationIsRejectedAtReset : Obligations.InvalidConfigurationIsRejectedAtReset := by
  intro s cfg rest hin
  refine ⟨?_, ?_, ?_, ?_⟩
  · intro hv
    obtain ⟨c, hc⟩ := Option.ne_none_iff_exists'.1 (mt (cfgCause_eq_none_iff cfg).1 (ne_true_of_eq_false hv))
    obtain ⟨t, ht, hfault, hcause⟩ := step_reset_of_cfgCause hin hc
    exact ⟨t, ht, hfault, hcause ▸ List.mem_map_of_mem (f := Cause.code) (cfgCause_mem hc)⟩
  · rintro rfl
    exact step_reset_of_cfgCause hin rfl
  · rintro pre c post rfl hpre
    have hstage : stageCause (pre ++ c :: post) = stageCause (c :: post) := stageCause_append hpre _
    constructor
    · intro hfactor
      refine step_reset_of_cfgCause hin (c := .cfgZeroFactor) (cfgCause_of_stageCause (hstage.trans ?_))
      simp [stageCause, hfactor]
    · intro hfactor htaps
      refine step_reset_of_cfgCause hin (c := .cfgNoTaps) (cfgCause_of_stageCause (hstage.trans ?_))
      simp [stageCause, hfactor, htaps]
  · intro hne hstages hrange
    have hpass : stageCause cfg = none := by simpa [stageCause] using stageCause_append hstages []
    have hfails : outOfRange cfg = true := by simpa [outOfRange, maxParam] using hrange
    exact step_reset_of_cfgCause hin (c := .cfgRange) (cfgCause_of_outOfRange hne hpass hfails)

end Sys2Proof.Machine
end

section
/-!
SUPPORT. The ways in which DECIMATE fails: an odd length, and a call with more emissions than places
(60_exceptions.md R175, R176).
-/

namespace Sys2Proof.Machine

theorem pairsOf_of_odd {bytes : List Byte} (h : bytes.length % 2 = 1) : pairsOf bytes = none := by
  match bytes with
  | [] => simp at h
  | [_] => rfl
  | i :: q :: rest =>
    have hrest : pairsOf rest = none := pairsOf_of_odd (by simp at h; omega)
    rw [pairsOf, hrest]
    rfl

/-- Settles O56: a buffer of odd length has no expansion. -/
theorem oddLengthIsRefusedByTheDriver : Obligations.OddLengthIsRefusedByTheDriver := by
  intro cap bytes s hodd
  simp [decimate, expandDecimate, pairsOf_of_odd hodd]

@[simp] theorem Response.err_errorResponse (cause : BitVec 8) : (errorResponse cause).err = true :=
  responseHeader_err true cause 0

@[simp] theorem Response.cause_errorResponse (cause : BitVec 8) : (errorResponse cause).cause = cause :=
  responseHeader_cause true cause 0

/-- An issued command that raises, with its answer. -/
theorem issue_of_raise {i : Instr} {s : State} {c : Cause}
    (h : exec i (s.offered i) = .next ((s.offered i).raise c)) :
    issue i s = ((s.offered i).raise c, some (errorResponse c.code)) := by
  rw [issue_eq h, State.raise_responses, List.getLast?_concat]

/-- A command answered with ERR ends the run. -/
theorem issueAll_of_err {i : Instr} {s t : State} {r : Response} (hi : issue i s = (t, some r))
    (herr : r.err = true) (is : List Instr) (out : List C32) :
    issueAll (i :: is) s out = (t, out ++ r.sample.toList, some r) := by
  simp [issueAll, hi, herr]

section
variable {cfg : Cfg} {cap : BitVec 24} {p k : Nat} {s : State}

/-- The PAIR that would make one emission more than the capacity has places. -/
theorem State.MidCall.issue_pair_beyond (h : s.MidCall cfg cap p k) (hlong : k + 1 ≤ 2 ^ 31 - 1)
    (hfits : emissionCount cfg p k ≤ cap.toNat) (hover : cap.toNat < emissionCount cfg p (k + 1)) (i q : Byte) :
    ∃ t, issue (.pair i q) s = (t, some (errorResponse Cause.outputCapacity.code)) ∧ t.fault = true := by
  have hcount := Machine.emissionCount_succ cfg p k
  have hdvd : Cfg.total cfg ∣ p + k + 1 := by
    by_contra hnot
    rw [if_neg hnot] at hcount
    omega
  have hemit : s.wouldEmit = true := s.wouldEmit_iff.2
    ((chain_isSome_iff (fun g hg => Stage.need_pos_of_wf (h.wf g hg)) numerics C32.zero).1
      ((h.chain_isSome_iff_dvd _).2 hdvd))
  have hfull : s.outLen = s.cap := by
    rw [if_pos hdvd] at hcount
    refine BitVec.eq_of_toNat_eq ?_
    rw [h.outLen, h.cap_eq]
    omega
  have hexec : exec (.pair i q) (s.offered (.pair i q)) = .next ((s.offered (.pair i q)).raise .outputCapacity) :=
    exec_pair_of_full (s := s.offered (.pair i q)) h.running h.calling (h.room hlong) hemit hfull i q
  exact ⟨_, issue_of_raise hexec, State.raise_fault _ .outputCapacity⟩

/-- The pairs of a call whose emissions exceed the capacity: one of them ends the run. -/
theorem State.MidCall.issueAll_pairs_beyond (h : s.MidCall cfg cap p k) {ps : List (Byte × Byte)} {is : List Instr}
    (hmore : is ≠ []) (out : List C32) (hlong : k + ps.length ≤ 2 ^ 31 - 1)
    (hfits : emissionCount cfg p k ≤ cap.toNat) (hover : cap.toNat < emissionCount cfg p (k + ps.length)) :
    ∃ t out', issueAll (pairCommands ps ++ is) s out = (t, out', some (errorResponse Cause.outputCapacity.code))
      ∧ t.fault = true := by
  induction ps generalizing k s out with
  | nil => exact absurd hover (Nat.not_lt.2 hfits)
  | cons pair ps ih =>
    rw [List.length_cons, Nat.add_comm ps.length, ← Nat.add_assoc] at hlong hover
    have hlong' : k + 1 ≤ 2 ^ 31 - 1 := Nat.le_of_add_right_le hlong
    rw [pairCommands, List.map_cons, List.cons_append]
    by_cases hnext : emissionCount cfg p (k + 1) ≤ cap.toNat
    · obtain ⟨t, y, hissue, ht, -⟩ := h.issue_pair hlong' hnext pair.1 pair.2
      rw [issueAll_cons hissue (Response.err_okResponse _) (by simp [hmore])]
      exact ih ht _ hlong hnext hover
    · obtain ⟨t, hissue, ht⟩ := h.issue_pair_beyond hlong' hfits (Nat.lt_of_not_le hnext) pair.1 pair.2
      exact ⟨t, _, issueAll_of_err hissue (Response.err_errorResponse _) _ _, ht⟩

end

/-- Settles O58: the pairs keep the schedule of the call until the one that finds the buffer full. -/
theorem decimateBeyondTheCapacityFaults : Obligations.DecimateBeyondTheCapacityFaults := by
  intro cap bytes s p n hinv _ hphase hcount hbytes hn hcap
  obtain ⟨hf, hc⟩ := (State.phase_eq_idle_iff s).1 hphase
  obtain ⟨-, -, hwf, -⟩ := (State.inv_iff_of_running hf).1 hinv
  obtain ⟨ps, hps, rfl⟩ := pairsOf_of_even hbytes
  rw [← Nat.zero_add ps.length] at hn hcap
  have hnone : emissionCount s.cfg p 0 ≤ cap.toNat := (Nat.sub_self _).le.trans (Nat.zero_le _)
  obtain ⟨s₁, hbegin, hcall⟩ := issue_beginCall_midCall hf hc hwf hcount cap
  obtain ⟨t, out, hpairs, ht⟩ := hcall.issueAll_pairs_beyond (List.cons_ne_nil .endCall []) [] hn hnone hcap
  refine ⟨t, ?_, by simp [State.phase, ht]⟩
  have hrun := (issueAll_cons hbegin (Response.err_okResponse []) (by simp) []).trans hpairs
  simp [decimate_of_answered hps hrun, Cause.code]

end Sys2Proof.Machine
end

section
/-!
SUPPORT. What the reset event with a valid configuration leaves (10_state.md R42, 70_reset_and_hazards.md R201).
-/

namespace Sys2Proof.Machine

/-- R200, R201: no element of the block before the event is in the state after it, only the model's own fields are. -/
theorem State.hostReset_of_valid {cfg : Cfg} (hv : Cfg.valid cfg = true) (s : State) :
    s.hostReset cfg = { State.fresh cfg s.draws with inbox := s.inbox.tail, responses := s.responses } := by
  rw [State.hostReset, State.construct_valid hv]

/-- Settles O49: the reset event is performed in every phase, and the checks of R172 pass, so construction is fresh. -/
theorem resetConstructsEveryElement : Obligations.ResetConstructsEveryElement := by
  intro s cfg rest hin hv
  refine ⟨s.hostReset cfg, step_reset hin, ?_⟩
  rw [State.hostReset_of_valid hv]
  rfl

end Sys2Proof.Machine
end
